-- ==== Sys2Proof/Word.lean ====
section
/-! DEFINITION. The word types of the block (00_scope.md R9: every value is unsigned and of a fixed width). -/

namespace Sys2Proof

/-- An 8-bit value: an operand field, a symbol cell, a pulse multiplier (R90, R121). -/
abbrev Byte := BitVec 8

/-- A 32-bit value: a code, a duration, a time, a response value (R6, R91). -/
abbrev Word := BitVec 32

/-- A command word (R90). -/
abbrev CmdWord := BitVec 48

end Sys2Proof
end

