-- ==== Sys2Proof/Syntax.lean ====
section
/-! DEFINITION. The sixteen host commands (30_encoding.md R93), one constructor per row of the opcode table.
An operand has the width of the field that carries it (R90, R96), so every term is a command. -/

namespace Sys2Proof

/-- A host command with its operands (R93). -/
inductive Instr where
  /-- SETPROTO index (R150) -/
  | setProto (index : Byte)
  /-- SETREP n (R151) -/
  | setRep (n : Byte)
  /-- CFGOUT pin (R158) -/
  | cfgOut (pin : Byte)
  /-- CFGIN pin (R180) -/
  | cfgIn (pin : Byte)
  /-- SETTOL percent (R200) -/
  | setTol (percent : Byte)
  /-- EMIT high, low (R131) -/
  | emit (high : Byte) (low : Byte)
  /-- SENDBITS bitLength, codeValue (R154) -/
  | sendBits (bitLength : Byte) (codeValue : Word)
  /-- PUTSYM index, character (R160) -/
  | putSym (index : Byte) (character : Byte)
  /-- SENDBIN n (R163) -/
  | sendBin (n : Byte)
  /-- SENDTRI n (R166) -/
  | sendTri (n : Byte)
  /-- AVAIL (R230) -/
  | avail
  /-- RSTAVAIL (R231) -/
  | rstAvail
  /-- RDVALUE (R232) -/
  | rdValue
  /-- RDLEN (R233) -/
  | rdLen
  /-- RDUNIT (R234) -/
  | rdUnit
  /-- RDPROTO (R235) -/
  | rdProto
  deriving DecidableEq, Repr

end Sys2Proof
end

