-- ==== Sys2Proof/WellFormed.lean ====
section
/-! DEFINITION. What makes a command word well-formed: the fields its format does not use are zero
(30_encoding.md R92, R95). A term of `Instr` needs no check of its own: its operands have the widths of
their fields, and every value of a field is a legal encoding (R96; a value outside an operation's range is
handled by that operation's rule, not by the encoding). -/

namespace Sys2Proof

/-- The three fields of a command word (R90). -/
structure CmdFields where
  op : Byte
  a : Byte
  d : Word
  deriving DecidableEq, Repr

/-- The sub-field `b = d[7:0]` (R90). -/
def CmdFields.b (f : CmdFields) : Byte := f.d.extractLsb' 0 8

/-- The sub-field `d[31:8]` (R90). -/
def CmdFields.dHigh (f : CmdFields) : BitVec 24 := f.d.extractLsb' 8 24

/-- The four formats (R92). -/
inductive Format where
  /-- no operand -/
  | n
  /-- one short operand -/
  | a
  /-- two short operands -/
  | ab
  /-- a short and a long operand -/
  | ad
  deriving DecidableEq, Repr

/-- The must-be-zero rule of each format (R92). -/
def Format.admits (fmt : Format) (f : CmdFields) : Bool :=
  match fmt with
  | .n => f.a == 0 && f.dHigh == 0 && f.b == 0
  | .a => f.dHigh == 0 && f.b == 0
  | .ab => f.dHigh == 0
  | .ad => true

/-- The format of each command (R93, column "format"). -/
def Instr.format (i : Instr) : Format :=
  match i with
  | .setProto _ => .a
  | .setRep _ => .a
  | .cfgOut _ => .a
  | .cfgIn _ => .a
  | .setTol _ => .a
  | .emit _ _ => .ab
  | .sendBits _ _ => .ad
  | .putSym _ _ => .ab
  | .sendBin _ => .a
  | .sendTri _ => .a
  | .avail => .n
  | .rstAvail => .n
  | .rdValue => .n
  | .rdLen => .n
  | .rdUnit => .n
  | .rdProto => .n

end Sys2Proof
end

