-- ==== Sys2Proof/Decode.lean ====
section
/-! DEFINITION. The command decoder and encoder (30_encoding.md R90 to R96, opcode_table.json). A command is
one 48-bit word taken whole from the port CMD (R282), so no byte order arises (R65; log 8). -/

namespace Sys2Proof

/-- Why a word is an illegal command (R95). -/
inductive DecodeError where
  /-- (a) an opcode other than the sixteen -/
  | reservedOpcode
  /-- (b) a listed opcode with a nonzero field that its format requires to be zero -/
  | unusedFieldNonzero
  deriving DecidableEq, Repr

/-- The fields of a word: `op = w[47:40]`, `a = w[39:32]`, `d = w[31:0]` (R90). -/
def fieldsOf (w : CmdWord) : CmdFields :=
  { op := w.extractLsb' 40 8, a := w.extractLsb' 32 8, d := w.extractLsb' 0 32 }

/-- The word with the given fields: `op` in the most significant byte (R65, R90). -/
def wordOf (f : CmdFields) : CmdWord := f.op ++ (f.a ++ f.d)

/-- One row of the opcode map (R93): `mtch` and `mask` are the table's numbers, `build` reads the operands. -/
structure OpcodeRow where
  mnemonic : String
  op : Byte
  format : Format
  mtch : CmdWord
  mask : CmdWord
  build : CmdFields → Instr

/-- The configuration commands of the opcode map (R93). -/
def configRows : List OpcodeRow :=
  [ ⟨"SETPROTO", 0x01, .a, 0x010000000000, 0xFF00FFFFFFFF, fun f => .setProto f.a⟩,
    ⟨"SETREP", 0x02, .a, 0x020000000000, 0xFF00FFFFFFFF, fun f => .setRep f.a⟩,
    ⟨"CFGOUT", 0x03, .a, 0x030000000000, 0xFF00FFFFFFFF, fun f => .cfgOut f.a⟩,
    ⟨"CFGIN", 0x04, .a, 0x040000000000, 0xFF00FFFFFFFF, fun f => .cfgIn f.a⟩,
    ⟨"SETTOL", 0x05, .a, 0x050000000000, 0xFF00FFFFFFFF, fun f => .setTol f.a⟩ ]

/-- The transmit commands of the opcode map (R93). -/
def transmitRows : List OpcodeRow :=
  [ ⟨"EMIT", 0x10, .ab, 0x100000000000, 0xFF00FFFFFF00, fun f => .emit f.a f.b⟩,
    ⟨"SENDBITS", 0x11, .ad, 0x110000000000, 0xFF0000000000, fun f => .sendBits f.a f.d⟩,
    ⟨"PUTSYM", 0x12, .ab, 0x120000000000, 0xFF00FFFFFF00, fun f => .putSym f.a f.b⟩,
    ⟨"SENDBIN", 0x13, .a, 0x130000000000, 0xFF00FFFFFFFF, fun f => .sendBin f.a⟩,
    ⟨"SENDTRI", 0x14, .a, 0x140000000000, 0xFF00FFFFFFFF, fun f => .sendTri f.a⟩ ]

/-- The consumer commands of the opcode map (R93). -/
def consumerRows : List OpcodeRow :=
  [ ⟨"AVAIL", 0x20, .n, 0x200000000000, 0xFFFFFFFFFFFF, fun _ => .avail⟩,
    ⟨"RSTAVAIL", 0x21, .n, 0x210000000000, 0xFFFFFFFFFFFF, fun _ => .rstAvail⟩,
    ⟨"RDVALUE", 0x22, .n, 0x220000000000, 0xFFFFFFFFFFFF, fun _ => .rdValue⟩,
    ⟨"RDLEN", 0x23, .n, 0x230000000000, 0xFFFFFFFFFFFF, fun _ => .rdLen⟩,
    ⟨"RDUNIT", 0x24, .n, 0x240000000000, 0xFFFFFFFFFFFF, fun _ => .rdUnit⟩,
    ⟨"RDPROTO", 0x25, .n, 0x250000000000, 0xFFFFFFFFFFFF, fun _ => .rdProto⟩ ]

/-- The opcode map: sixteen rows (R93). -/
def opcodeMap : List OpcodeRow := configRows ++ transmitRows ++ consumerRows

/-- A word is the command of a row exactly when `w AND mask = match` (R93). -/
def OpcodeRow.matches (r : OpcodeRow) (w : CmdWord) : Bool := w &&& r.mask == r.mtch

/-- The decoder (R94): `op` picks the row, the row's format checks the unused fields, and a word that no row
takes is refused by name (R95). -/
def decode (w : CmdWord) : Except DecodeError Instr :=
  match opcodeMap.find? (fun r => r.op == (fieldsOf w).op) with
  | none => .error .reservedOpcode
  | some r => if r.format.admits (fieldsOf w) then .ok (r.build (fieldsOf w)) else .error .unusedFieldNonzero

/-- The fields of each command's word (R90, R92, R93): a field the format does not use is zero. -/
def encodeFields (i : Instr) : CmdFields :=
  match i with
  | .setProto index => ⟨0x01, index, 0⟩
  | .setRep n => ⟨0x02, n, 0⟩
  | .cfgOut pin => ⟨0x03, pin, 0⟩
  | .cfgIn pin => ⟨0x04, pin, 0⟩
  | .setTol percent => ⟨0x05, percent, 0⟩
  | .emit high low => ⟨0x10, high, low.zeroExtend 32⟩
  | .sendBits bitLength codeValue => ⟨0x11, bitLength, codeValue⟩
  | .putSym index character => ⟨0x12, index, character.zeroExtend 32⟩
  | .sendBin n => ⟨0x13, n, 0⟩
  | .sendTri n => ⟨0x14, n, 0⟩
  | .avail => ⟨0x20, 0, 0⟩
  | .rstAvail => ⟨0x21, 0, 0⟩
  | .rdValue => ⟨0x22, 0, 0⟩
  | .rdLen => ⟨0x23, 0, 0⟩
  | .rdUnit => ⟨0x24, 0, 0⟩
  | .rdProto => ⟨0x25, 0, 0⟩

/-- The word of a command (R90, R93). -/
def encode (i : Instr) : CmdWord := wordOf (encodeFields i)

/-- The table's bits `w` of an instruction of `nbits` bits as the word on the port CMD: bits above `nbits`
are 0, and a number beyond 48 bits is no command word (R90). -/
def tableWord (nbits w : Nat) : Option CmdWord :=
  if w % 2 ^ nbits < 2 ^ 48 then some (BitVec.ofNat 48 (w % 2 ^ nbits)) else none

/-- The instruction the decoder reads from the table's bits `w` (R93, R94). -/
def decodeTableWord (nbits w : Nat) : Option Instr :=
  match tableWord nbits w with
  | none => none
  | some word => (decode word).toOption

end Sys2Proof
end

