-- ==== Sys2Proof/Config.lean ====
section
/-! DEFINITION. The parameters of the block (00_scope.md R6) and the shape of the protocol table
(40_protocol_table.md R120, R121). -/

namespace Sys2Proof

/-- Two duration multipliers, scaled by the protocol's base unit (R120, R121). -/
structure PulsePair where
  high : Byte
  low : Byte
  deriving DecidableEq, Repr

/-- One entry of the protocol table (R120, R121). -/
structure Protocol where
  /-- the base pulse unit in microseconds -/
  unit : BitVec 16
  sync : PulsePair
  zero : PulsePair
  one : PulsePair
  /-- the inversion flag -/
  inv : Bool
  deriving DecidableEq, Repr

/-- The protocol table: exactly six entries (R120). Its content is the OPEN parameter PT of R6 and R123. -/
structure ProtocolTable where
  p1 : Protocol
  p2 : Protocol
  p3 : Protocol
  p4 : Protocol
  p5 : Protocol
  p6 : Protocol
  deriving DecidableEq, Repr

namespace Config

/-- N_PROTO (R6, R120). -/
abbrev nProto : Nat := 6
/-- PROTO_DEFAULT (R6, R21). -/
abbrev protoDefault : BitVec 3 := 1
/-- REPEAT_DEFAULT (R6, R22). -/
abbrev repeatDefault : Byte := 10
/-- TOL_DEFAULT, percent (R6, R26). -/
abbrev tolDefault : Byte := 60
/-- SEP_LIMIT_US, a constant of the block (R6, R50, R183). -/
abbrev sepLimitUs : Nat := 4300
/-- GAP_TOL_US, a constant of the block (R6, R50, R184). -/
abbrev gapTolUs : Nat := 200
/-- MIN_EDGES: a decode succeeds only with more edges than this (R6, R208). -/
abbrev minEdges : Nat := 7
/-- MAX_BITS (R6, R155, R164). -/
abbrev maxBits : Nat := 32
/-- The longest tri-state string, `2n <= MAX_BITS` (R167). -/
abbrev maxTriSymbols : Nat := 16
/-- CAP, the number of slots of the Timing Buffer (R6, R33). PRESUMED by the spec itself (log 13). -/
abbrev cap : Nat := 67
/-- SYM_CAP, the number of cells of the symbol buffer (R6, R28). -/
abbrev symCap : Nat := 32
/-- PIN_NONE, the pin identity "not configured" (R6, R24, R25). -/
abbrev pinNone : Byte := 0xFF
/-- WITHIN_INCLUSIVE: a deviation of exactly the tolerance matches (R6, R12; log 13). -/
abbrev withinInclusive : Bool := true

end Config
end Sys2Proof
end

