-- ==== Sys2Proof/Machine/Memory.lean ====
section
/-! DEFINITION. The block's addressable arrays SYM and TB (20_memory.md R60 to R67): sparse lists of cells in
one canonical form. An access moves one whole cell and an index is a cell number (R64); log 10. -/

namespace Sys2Proof.Machine

/-- Cells of `w` bits: the listed (index, value) pairs, indices strictly rising, no value equal to what an
unlisted index reads as. SYM is a `Memory 8`, which is a list of `Host.Cell`; TB is a `Memory 32`. -/
abbrev Memory (w : Nat) := List (Nat × BitVec w)

/-- What an unlisted cell reads as: the reset content of SYM and of TB (R28, R33, R48). -/
def Memory.unlisted (w : Nat) : BitVec w := 0#w

/-- `space[i]` (00_scope.md R11): one whole cell, without a side effect (R64, R66). -/
def Memory.read {w : Nat} : Memory w → Nat → BitVec w
  | [], _ => Memory.unlisted w
  | (a, v) :: m, i => if a = i then v else Memory.read m i

/-- A listing headed by cell `i`, unless its value is the one an unlisted cell has. -/
def Memory.cons {w : Nat} (i : Nat) (v : BitVec w) (m : Memory w) : Memory w :=
  if v = Memory.unlisted w then m else (i, v) :: m

/-- `space[i] <- v` (00_scope.md R11): one whole cell (R64); every other cell keeps its value (R67). -/
def Memory.write {w : Nat} : Memory w → Nat → BitVec w → Memory w
  | [], i, v => Memory.cons i v []
  | (a, u) :: m, i, v =>
    if i < a then Memory.cons i v ((a, u) :: m)
    else if i = a then Memory.cons i v m
    else (a, u) :: Memory.write m i v

/-- The canonical form from index `lo` on: indices rising, below `size`, no value as an unlisted cell's. -/
def Memory.wfFrom {w : Nat} (size : Nat) : Nat → Memory w → Bool
  | _, [] => true
  | lo, (a, v) :: m => decide (lo ≤ a) && decide (a < size) && decide (v ≠ Memory.unlisted w) && Memory.wfFrom size (a + 1) m

/-- The canonical form of a space of `size` cells (R60): equal contents are equal lists. -/
def Memory.wf {w : Nat} (size : Nat) (m : Memory w) : Bool := Memory.wfFrom size 0 m

end Sys2Proof.Machine
end

