-- ==== Sys2Proof/Machine/ProtocolTable.lean ====
section
/-! DEFINITION. The Protocol Table and PROTOCOLAT (40_protocol_table.md R120 to R126). -/

namespace Sys2Proof.Machine

/-- PT_DEFAULT (R123). PRESUMED: the spec gives it from general knowledge, not from its source (log 1). It is
only the value the free field `State.pt` has at reset; no statement rests on it. -/
def ptDefault : ProtocolTable :=
  { p1 := { unit := 350, sync := ⟨1, 31⟩, zero := ⟨1, 3⟩, one := ⟨3, 1⟩, inv := false }
    p2 := { unit := 650, sync := ⟨1, 10⟩, zero := ⟨1, 2⟩, one := ⟨2, 1⟩, inv := false }
    p3 := { unit := 100, sync := ⟨30, 71⟩, zero := ⟨4, 11⟩, one := ⟨9, 6⟩, inv := false }
    p4 := { unit := 380, sync := ⟨1, 6⟩, zero := ⟨1, 3⟩, one := ⟨3, 1⟩, inv := false }
    p5 := { unit := 500, sync := ⟨6, 14⟩, zero := ⟨1, 2⟩, one := ⟨2, 1⟩, inv := false }
    p6 := { unit := 450, sync := ⟨23, 1⟩, zero := ⟨1, 2⟩, one := ⟨2, 1⟩, inv := true } }

/-- PROTOCOLAT(index), for `index` in 1..6 (R124). No rule forms another index; for one, entry 1, the
fallback the source gives an invalid index (R124, C5; log 9). -/
def protocolAt (pt : ProtocolTable) (index : Nat) : Protocol :=
  match index with
  | 2 => pt.p2
  | 3 => pt.p3
  | 4 => pt.p4
  | 5 => pt.p5
  | 6 => pt.p6
  | _ => pt.p1

/-- `SyncCount(P)`, the larger of the sync pair's components (R126). -/
def syncCount (P : Protocol) : Nat := max P.sync.high.toNat P.sync.low.toNat

/-- The constraint on an entry of any instance of the table (R122; log 11). -/
def protocolOk (P : Protocol) : Bool := decide (1 ≤ syncCount P)

/-- The constraint on any instance of the table (R122). -/
def tableOk (pt : ProtocolTable) : Bool :=
  protocolOk pt.p1 && protocolOk pt.p2 && protocolOk pt.p3 && protocolOk pt.p4 && protocolOk pt.p5 && protocolOk pt.p6

end Sys2Proof.Machine
end

