-- ==== Sys2Proof/Machine/State.lean ====
section
/-! DEFINITION. The state of the block (10_state.md R20) as plain data, and the state after reset (R48). -/

namespace Sys2Proof.Machine

/-- A segment of a waveform: a level and its duration in microseconds (00_scope.md R13). A duration is a
multiplier times a unit, at most 16 711 425, so 24 bits hold it exactly (R29, R121; log 12). -/
structure Segment where
  level : Bool
  dur : BitVec 24
  deriving DecidableEq, Repr

/-- The response `(OK, RSP)` of a command (30_encoding.md R91, 10_state.md R42). -/
structure Response where
  ok : Bool
  rsp : Word
  deriving DecidableEq, Repr

/-- A Decoded Result: code value, bit length, inferred base pulse unit, protocol index (10_state.md R37). -/
structure Decoded where
  value : Word
  len : Byte
  unit : Word
  proto : BitVec 3
  deriving DecidableEq, Repr

/-- What the outside presents at a port (70_reset_and_hazards.md R282; logs 2 and 5). -/
inductive Input where
  /-- a command word on CMD -/
  | cmd (w : CmdWord)
  /-- a pulse on TICK: one microsecond -/
  | tick
  /-- a level change of RXIN -/
  | edge
  /-- an assertion and release of RST -/
  | rst
  deriving DecidableEq, Repr

/-- The state of the block: the registers and arrays of R20, and three fields of the model (`pt`, `inputs`,
`resp`). -/
structure State where
  /-- TX_PROTO (R21) -/
  txProto : BitVec 3
  /-- TX_REPEAT (R22) -/
  txRepeat : Byte
  /-- OUT_PIN (R24) -/
  outPin : Byte
  /-- IN_PIN (R25) -/
  inPin : Byte
  /-- RX_TOL, percent (R26) -/
  rxTol : Byte
  /-- OUT: true is high (R13, R27) -/
  out : Bool
  /-- SYM (R28) -/
  sym : Memory 8
  /-- TX_BUSY (R29) -/
  txBusy : Bool
  /-- TX_SEGS, the segments still to be started, in time order (R29, R30) -/
  txSegs : List Segment
  /-- TX_REMAIN, microseconds (R29) -/
  txRemain : BitVec 24
  /-- TCNT (R31) -/
  tcnt : BitVec 16
  /-- OVF (R31) -/
  ovf : BitVec 16
  /-- LAST_TIME (R32) -/
  lastTime : Word
  /-- TB, the Timing Buffer (R33) -/
  tb : Memory 32
  /-- CHANGE_CNT (R34) -/
  changeCnt : BitVec 7
  /-- REPEAT_CNT (R35) -/
  repeatCnt : BitVec 2
  /-- RES_VALID (R36) -/
  resValid : Bool
  /-- RES_VALUE (R38) -/
  resValue : Word
  /-- RES_LEN (R39) -/
  resLen : Byte
  /-- RES_UNIT (R40) -/
  resUnit : Word
  /-- RES_PROTO (R41) -/
  resProto : BitVec 3
  /-- The model's own: the OPEN parameter PT (R6, R123), which no step writes (R125; log 1). -/
  pt : ProtocolTable
  /-- The model's own: what the outside does next, in arrival order (R7, R70; logs 2 to 5). -/
  inputs : List Input
  /-- The model's own: the ports OK and RSP after a HostCmd step, `none` after any other (R42, R282; log 6). -/
  resp : Option Response
  deriving DecidableEq, Repr

/-- Why the machine would stop. There is no constructor: the block has no trap and no fatal failure
(60_exceptions.md R250, R251), so nobody raises a fault, and that is safe. -/
inductive Fault where
  deriving DecidableEq, Repr

/-- Why a step has no meaning. -/
inductive Refusal where
  /-- Raised by an arm of `exec` whose instruction has no meaning yet (safe: the run stops). No arm raises
  it: all sixteen commands are modelled. -/
  | notModelled (mnemonic : String)
  deriving DecidableEq, Repr

/-- The state after reset: every register of the block as R48 says. The model's own fields: `pt` is
PT_DEFAULT (PRESUMED, log 1), nothing is presented yet (DESIGN CHOICE, log 2) and no response stands
(DESIGN CHOICE, log 6). -/
def State.reset : State :=
  { txProto := Config.protoDefault
    txRepeat := Config.repeatDefault
    outPin := Config.pinNone
    inPin := Config.pinNone
    rxTol := Config.tolDefault
    out := false
    sym := []
    txBusy := false
    txSegs := []
    txRemain := 0
    tcnt := 0
    ovf := 0
    lastTime := 0
    tb := []
    changeCnt := 0
    repeatCnt := 0
    resValid := false
    resValue := 0
    resLen := 0
    resUnit := 0
    resProto := 0
    pt := ptDefault
    inputs := []
    resp := none }

end Sys2Proof.Machine
end

