-- ==== Sys2Proof/Machine/Operands.lean ====
section
/-! DEFINITION. Operand forms: the comparisons of 00_scope.md R10 and R12, the line-code encodings of
30_encoding.md R99 to R102, and the waveforms of 41_pulse_emitter.md R130 and 42_transmitter.md R153. -/

namespace Sys2Proof.Machine

/-- `absdiff(a, b)` (R10). -/
def absdiff (a b : Nat) : Nat := if b ≤ a then a - b else b - a

/-- `within(a, b, t)` (R12). -/
def within (a b t : Nat) : Bool :=
  if Config.withinInclusive then decide (absdiff a b ≤ t) else decide (absdiff a b < t)

/-- `exceeds(a, b)`, strict (R12). -/
def exceeds (a b : Nat) : Bool := decide (b < a)

/-- '0' (R14; log 13). -/
def char0 : Byte := 0x30
/-- '1' (R14; log 13). -/
def char1 : Byte := 0x31
/-- 'F' (R14; log 13). -/
def charF : Byte := 0x46

/-- `BinBit(c)`: any character but '0' counts as 1 (R100). -/
def binBit (c : Byte) : Bool := !(c == char0)

/-- `TriBits(c)`, defined for '0', 'F' and '1' alone (R101). -/
def triBits (c : Byte) : Option (BitVec 2) :=
  if c = char0 then some 0b00
  else if c = charF then some 0b01
  else if c = char1 then some 0b11
  else none

/-- `Dur(P, m) = P.unit * m` microseconds, exact in 24 bits (R121). -/
def dur (P : Protocol) (m : Byte) : BitVec 24 := BitVec.ofNat 24 (P.unit.toNat * m.toNat)

/-- `PairSegs(P, pair)`: inversion swaps the levels, not the durations (R130). -/
def pairSegs (P : Protocol) (pair : PulsePair) : List Segment :=
  if P.inv then [⟨false, dur P pair.high⟩, ⟨true, dur P pair.low⟩]
  else [⟨true, dur P pair.high⟩, ⟨false, dur P pair.low⟩]

/-- `BitPair(P, bit)` (R99). -/
def bitPair (P : Protocol) (bit : Bool) : PulsePair := if bit then P.one else P.zero

/-- The data bits of `FrameSegs`, most significant of the low `len` bits first (R153). -/
def dataSegs (P : Protocol) (code : Word) : Nat → List Segment
  | 0 => []
  | len + 1 => pairSegs P (bitPair P (code.getLsbD len)) ++ dataSegs P code len

/-- `FrameSegs(P, c, L)`: the data bits, then one sync pair (R153). -/
def frameSegs (P : Protocol) (code : Word) (len : Nat) : List Segment :=
  dataSegs P code len ++ pairSegs P P.sync

/-- `SendSegs(P, c, L, R) = FrameSegs(P, c, L) * R` (R11, R153). -/
def sendSegs (P : Protocol) (code : Word) (len repeats : Nat) : List Segment :=
  (List.replicate repeats (frameSegs P code len)).flatten

/-- The code of the binary string `SYM[0] .. SYM[n-1]`: `c <- (c << 1) | BinBit(SYM[i])` (R163). -/
def binCode (sym : Memory 8) : Nat → Word
  | 0 => 0
  | n + 1 => (binCode sym n <<< 1) ||| (BitVec.ofBool (binBit (sym.read n))).zeroExtend 32

/-- The code of the tri-state string `SYM[0] .. SYM[n-1]`: `c <- (c << 2) | TriBits(SYM[i])`, none when one
of the symbols is not '0', 'F' or '1' (R166, R167). -/
def triCode (sym : Memory 8) : Nat → Option Word
  | 0 => some 0
  | n + 1 =>
    match triCode sym n, triBits (sym.read n) with
    | some c, some t => some ((c <<< 2) ||| t.zeroExtend 32)
    | _, _ => none

/-- The index SETPROTO stores: the operand if it is 1 to 6, else 1 (R150). -/
def clampProto (index : Byte) : BitVec 3 :=
  if 1 ≤ index.toNat ∧ index.toNat ≤ Config.nProto then index.setWidth 3 else Config.protoDefault

/-- Two consecutive slots read as a data bit under protocol `P`, unit `u` and tolerance `t`: the zero
pattern first, then the one pattern, else no bit (R102, R205). -/
def classify (P : Protocol) (u t x y : Nat) : Option Bool :=
  if within x (u * P.zero.high.toNat) t && within y (u * P.zero.low.toNat) t then some false
  else if within x (u * P.one.high.toNat) t && within y (u * P.one.low.toNat) t then some true
  else none

/-- The matcher's accumulator takes a bit at the bottom; the bit shifted out of bit 31 is lost (R206). -/
def shiftIn (code : Word) (bit : Bool) : Word := (code <<< 1) ||| (BitVec.ofBool bit).zeroExtend 32

end Sys2Proof.Machine
end

