-- ==== Sys2Proof/Machine/Flags.lean ====
section
/-! DEFINITION. The block's three one-bit conditions (10_state.md R43): the response bit OK with the response
value (R42, R91), TX_BUSY (R29, R133) and RES_VALID with the Decoded Result it guards (R36, R209, R231). -/

namespace Sys2Proof.Machine

/-- `return (ok, rsp)` (00_scope.md R11): the ports OK and RSP show the response of the command just taken (R282). -/
def respond (ok : Bool) (rsp : Word) (s : State) : State := { s with resp := some ⟨ok, rsp⟩ }

/-- `return (1, 0)`: accepted (R91). -/
def accept (s : State) : State := respond true 0 s

/-- `return (0, 0)`: refused with no change of the block's state (R91, R95). -/
def refuse (s : State) : State := respond false 0 s

/-- A step that is no HostCmd leaves no response on the ports (R42; log 6). -/
def noResponse (s : State) : State := { s with resp := none }

/-- TX_BUSY at the end of TxAdvance: cleared when nothing is left, else kept (R133). -/
def busyAfter (busy : Bool) (remain : BitVec 24) (segs : List Segment) : Bool :=
  if remain = 0 ∧ segs = [] then false else busy

/-- `publish(code, len, unit, p)`: the five result registers change together (R209). -/
def publish (r : Decoded) (s : State) : State :=
  { s with resValue := r.value, resLen := r.len, resUnit := r.unit, resProto := r.proto, resValid := true }

/-- The effect of RSTAVAIL on the Decoded Result: the five registers together (R231). -/
def clearResult (s : State) : State :=
  { s with resValue := 0, resLen := 0, resUnit := 0, resProto := 0, resValid := false }

end Sys2Proof.Machine
end

