-- ==== Sys2Proof/Machine/Ops.lean ====
section
/-! DEFINITION. The named operations over registers and arrays that several commands or events share: the
time base, the symbol buffer, the TX sequencer and the transmission of a segment list. The block takes no
exception and returns from none (60_exceptions.md R251, R257, R258), so there is no operation for either:
an event saves nothing and is a step of its own (`tick` here, `edge` in EdgeCapture). -/

namespace Sys2Proof.Machine

/-- `T = OVF || TCNT`, the 32-bit time in microseconds (R31). -/
def time (s : State) : Word := s.ovf ++ s.tcnt

/-- `T <- (T + 1) mod 2^32`: TCNT counts and carries into OVF in the same step (R31, R136). -/
def countTime (s : State) : State :=
  { s with tcnt := s.tcnt + 1, ovf := if s.tcnt = 0xFFFF then s.ovf + 1 else s.ovf }

/-- `SYM[index] <- character` (R28, R160). -/
def writeSym (index : Nat) (character : Byte) (s : State) : State := { s with sym := s.sym.write index character }

/-- The loop of TxAdvance while TX_REMAIN = 0: starts segments until one has a nonzero duration or none is
left; gives OUT, TX_REMAIN and TX_SEGS (R133, R135). -/
def startSegs (out : Bool) : List Segment → Bool × BitVec 24 × List Segment
  | [] => (out, 0, [])
  | g :: rest => if g.dur = 0 then startSegs g.level rest else (g.level, g.dur, rest)

/-- `TxAdvance()` (R133). -/
def txAdvance (s : State) : State :=
  if s.txRemain = 0 then
    let r := startSegs s.out s.txSegs
    { s with out := r.1, txRemain := r.2.1, txSegs := r.2.2, txBusy := busyAfter s.txBusy r.2.1 r.2.2 }
  else s

/-- `TxStart(segs)` (R132). -/
def txStart (segs : List Segment) (s : State) : State :=
  txAdvance { s with txSegs := segs, txRemain := 0, txBusy := true }

/-- The TX sequencer's part of TICK (R136). -/
def txCount (s : State) : State :=
  if s.txBusy then txAdvance { s with txRemain := s.txRemain - 1 } else s

/-- TICK: one microsecond passes (R136). -/
def tick (s : State) : State := txCount (countTime s)

/-- The protocol of the next transmission: PROTOCOLAT(TX_PROTO) (R124, R131, R154). -/
def activeProtocol (s : State) : Protocol := protocolAt s.pt s.txProto.toNat

/-- The end of every transmit command whose operands stand: without an output pin a silent no-op with
OK = 1 (FC1), else TxStart; the response is (1, 0) (R131, R154, R159, R250). -/
def transmit (segs : List Segment) (s : State) : State :=
  if s.outPin = Config.pinNone then accept s else accept (txStart segs s)

/-- From the point where code and length are known, every send is this: the segment list is fixed from
TX_PROTO and TX_REPEAT as they stand (R152, R153, R163). -/
def sendCode (code : Word) (len : Nat) (s : State) : State :=
  transmit (sendSegs (activeProtocol s) code len s.txRepeat.toNat) s

end Sys2Proof.Machine
end

