-- ==== Sys2Proof/Machine/Consumer.lean ====
section
/-! DEFINITION. The consumer interface to the Decoded Result (46_consumer.md). -/

namespace Sys2Proof.Machine

/-- AVAIL (R230). -/
def execAvail (s : State) : Host.Outcome State Fault Refusal :=
  .next (respond true ((BitVec.ofBool s.resValid).zeroExtend 32) s)

/-- RSTAVAIL (R231). -/
def execRstAvail (s : State) : Host.Outcome State Fault Refusal :=
  .next (accept (clearResult s))

/-- RDVALUE (R232). -/
def execRdValue (s : State) : Host.Outcome State Fault Refusal :=
  .next (respond true s.resValue s)

/-- RDLEN (R233). -/
def execRdLen (s : State) : Host.Outcome State Fault Refusal :=
  .next (respond true (s.resLen.zeroExtend 32) s)

/-- RDUNIT (R234). -/
def execRdUnit (s : State) : Host.Outcome State Fault Refusal :=
  .next (respond true s.resUnit s)

/-- RDPROTO (R235). -/
def execRdProto (s : State) : Host.Outcome State Fault Refusal :=
  .next (respond true (s.resProto.zeroExtend 32) s)

end Sys2Proof.Machine
end

