-- ==== Sys2Proof/Machine/ProtocolMatcher.lean ====
section
/-! DEFINITION. The Protocol Matcher (44_protocol_matcher.md): SETTOL and the internal operation TRYDECODE. -/

namespace Sys2Proof.Machine

/-- SETTOL percent (R200). -/
def execSetTol (percent : Byte) (s : State) : Host.Outcome State Fault Refusal :=
  .next (accept { s with rxTol := percent })

/-- The matcher's unit estimate `TB[0] div SyncCount(P)` (R202). -/
def unitEstimate (P : Protocol) (tb : Memory 32) : Nat := (tb.read 0).toNat / syncCount P

/-- The matcher's tolerance `(unit * RX_TOL) div 100` (R202). -/
def tolerance (unit : Nat) (rxTol : Byte) : Nat := unit * rxTol.toNat / 100

/-- The start slot: 1, or 2 when the protocol is inverted (R203). -/
def startSlot (P : Protocol) : Nat := if P.inv then 2 else 1

/-- The loop of TRYDECODE from slot `i` with accumulator `code`: every pair `(i, i+1)` wholly inside slots
`0 .. E-1`; none when a pair fits neither pattern (R201, R204, R206, R207). `fuel` bounds the rounds; E
rounds always suffice, since each advances `i` by 2. -/
def matchLoop (P : Protocol) (unit tol : Nat) (tb : Memory 32) (E : Nat) : Nat → Nat → Word → Option Word
  | 0, _, code => some code
  | fuel + 1, i, code =>
    if i + 1 < E then
      match classify P unit tol (tb.read i).toNat (tb.read (i + 1)).toNat with
      | some bit => matchLoop P unit tol tb E fuel (i + 2) (shiftIn code bit)
      | none => none
    else some code

/-- TRYDECODE(p, E): the result it would publish, or none where it returns false (R201). It reads TB and
writes nothing (R207, R215); the caller publishes. -/
def tryDecode (p E : Nat) (s : State) : Option Decoded :=
  let P := protocolAt s.pt p
  let unit := unitEstimate P s.tb
  match matchLoop P unit (tolerance unit s.rxTol) s.tb E E (startSlot P) 0 with
  | none => none
  | some code =>
    if Config.minEdges < E then
      some { value := code, len := BitVec.ofNat 8 ((E - 1) / 2), unit := BitVec.ofNat 32 unit, proto := BitVec.ofNat 3 p }
    else none

end Sys2Proof.Machine
end

