-- ==== Sys2Proof/Machine/DecodeCoordinator.lean ====
section
/-! DEFINITION. The Decode Coordinator (45_decode_coordinator.md R220 to R225). -/

namespace Sys2Proof.Machine

/-- The first success among the protocol indices of a list, in the list's order (R220). -/
def firstDecode (E : Nat) (s : State) : List Nat → Option Decoded
  | [] => none
  | p :: rest =>
    match tryDecode p E s with
    | some r => some r
    | none => firstDecode E s rest

/-- The indices the coordinator tries: exactly the table, ascending (R220, R222). -/
def coordIndices : List Nat := [1, 2, 3, 4, 5, 6]

/-- COORD(E): publishes the first success; without one nothing changes (R220, R223). -/
def coord (E : Nat) (s : State) : State :=
  match firstDecode E s coordIndices with
  | some r => publish r s
  | none => s

end Sys2Proof.Machine
end

