-- ==== Sys2Proof/Machine/EdgeCapture.lean ====
section
/-! DEFINITION. Edge Capture and the framing detector (43_edge_capture.md): CFGIN and the event EDGE. -/

namespace Sys2Proof.Machine

/-- CFGIN pin (R180): IN_PIN and nothing else. -/
def execCfgIn (pin : Byte) (s : State) : Host.Outcome State Fault Refusal :=
  .next (accept { s with inPin := pin })

/-- The duration of an edge, `(T - LAST_TIME) mod 2^32` (R181). -/
def edgeDuration (s : State) : Word := time s - s.lastTime

/-- A qualifying gap: REPEAT_CNT counts, and its second count hands CHANGE_CNT to COORD and returns to 0
(R182, R185). -/
def countGap (s : State) : State :=
  if s.repeatCnt + 1 = 2 then { coord s.changeCnt.toNat s with repeatCnt := 0 }
  else { s with repeatCnt := s.repeatCnt + 1 }

/-- The gap logic of EDGE: a candidate gap that is within GAP_TOL_US of `TB[0]` is counted, any other
candidate clears REPEAT_CNT, and either resets CHANGE_CNT (R182, R183, R184). -/
def gapLogic (d : Word) (s : State) : State :=
  if exceeds d.toNat Config.sepLimitUs then
    if within d.toNat (s.tb.read 0).toNat Config.gapTolUs then { countGap s with changeCnt := 0 }
    else { s with repeatCnt := 0, changeCnt := 0 }
  else s

/-- The full check of EDGE (R186, failure class FC4). -/
def fullCheck (s : State) : State :=
  if Config.cap ≤ s.changeCnt.toNat then { s with changeCnt := 0, repeatCnt := 0 } else s

/-- The write of EDGE: the duration, the index, the time of this edge (R187). -/
def recordEdge (d : Word) (s : State) : State :=
  { s with tb := s.tb.write s.changeCnt.toNat d, changeCnt := s.changeCnt + 1, lastTime := time s }

/-- EDGE: nothing without an input line, else gap logic, full check and write in this order (R182, R188). -/
def edge (s : State) : State :=
  if s.inPin = Config.pinNone then s
  else recordEdge (edgeDuration s) (fullCheck (gapLogic (edgeDuration s) s))

end Sys2Proof.Machine
end

