-- ==== Sys2Proof/Machine/PulseEmitter.lean ====
section
/-! DEFINITION. The Pulse Emitter's command (41_pulse_emitter.md). -/

namespace Sys2Proof.Machine

/-- EMIT high, low: the pair once, under the active protocol, ignoring TX_REPEAT (R131). -/
def execEmit (high low : Byte) (s : State) : Host.Outcome State Fault Refusal :=
  .next (transmit (pairSegs (activeProtocol s) ⟨high, low⟩) s)

end Sys2Proof.Machine
end

