-- ==== Sys2Proof/Machine/Transmitter.lean ====
section
/-! DEFINITION. The Transmitter's commands (42_transmitter.md). -/

namespace Sys2Proof.Machine

/-- SETPROTO index (R150). -/
def execSetProto (index : Byte) (s : State) : Host.Outcome State Fault Refusal :=
  .next (accept { s with txProto := clampProto index })

/-- SETREP n (R151). -/
def execSetRep (n : Byte) (s : State) : Host.Outcome State Fault Refusal :=
  .next (accept { s with txRepeat := n })

/-- CFGOUT pin (R158). -/
def execCfgOut (pin : Byte) (s : State) : Host.Outcome State Fault Refusal :=
  .next (accept { s with outPin := pin })

/-- SENDBITS bitLength, codeValue (R154, R155). -/
def execSendBits (bitLength : Byte) (codeValue : Word) (s : State) : Host.Outcome State Fault Refusal :=
  if Config.maxBits < bitLength.toNat then .next (refuse s)
  else .next (sendCode codeValue bitLength.toNat s)

/-- PUTSYM index, character (R160). -/
def execPutSym (index character : Byte) (s : State) : Host.Outcome State Fault Refusal :=
  if Config.symCap ≤ index.toNat then .next (refuse s)
  else .next (accept (writeSym index.toNat character s))

/-- SENDBIN n (R163, R164). -/
def execSendBin (n : Byte) (s : State) : Host.Outcome State Fault Refusal :=
  if Config.maxBits < n.toNat then .next (refuse s)
  else .next (sendCode (binCode s.sym n.toNat) n.toNat s)

/-- SENDTRI n (R166, R167): the count, then the symbols, then the output pin (R159). -/
def execSendTri (n : Byte) (s : State) : Host.Outcome State Fault Refusal :=
  if Config.maxTriSymbols < n.toNat then .next (refuse s)
  else
    match triCode s.sym n.toNat with
    | none => .next (refuse s)
    | some code => .next (sendCode code (2 * n.toNat) s)

end Sys2Proof.Machine
end

