-- ==== Sys2Proof/Machine/Dispatch.lean ====
section
/-! DEFINITION. Every command and its meaning (30_encoding.md R93). -/

namespace Sys2Proof.Machine

/-- The effect of a command taken on the command port (R93); `step` takes one only while TX_BUSY = 0 (R137). -/
def exec (i : Instr) (s : State) : Host.Outcome State Fault Refusal :=
  match i with
  | .setProto index => Sys2Proof.Machine.execSetProto index s
  | .setRep n => Sys2Proof.Machine.execSetRep n s
  | .cfgOut pin => Sys2Proof.Machine.execCfgOut pin s
  | .cfgIn pin => Sys2Proof.Machine.execCfgIn pin s
  | .setTol percent => Sys2Proof.Machine.execSetTol percent s
  | .emit high low => Sys2Proof.Machine.execEmit high low s
  | .sendBits bitLength codeValue => Sys2Proof.Machine.execSendBits bitLength codeValue s
  | .putSym index character => Sys2Proof.Machine.execPutSym index character s
  | .sendBin n => Sys2Proof.Machine.execSendBin n s
  | .sendTri n => Sys2Proof.Machine.execSendTri n s
  | .avail => Sys2Proof.Machine.execAvail s
  | .rstAvail => Sys2Proof.Machine.execRstAvail s
  | .rdValue => Sys2Proof.Machine.execRdValue s
  | .rdLen => Sys2Proof.Machine.execRdLen s
  | .rdUnit => Sys2Proof.Machine.execRdUnit s
  | .rdProto => Sys2Proof.Machine.execRdProto s

end Sys2Proof.Machine
end

