-- ==== Sys2Proof/Machine/HostPort.lean ====
section
/-! DEFINITION. Who moves next and what its step does: the agents of 00_scope.md R7 at the ports of
70_reset_and_hazards.md R282. -/

namespace Sys2Proof.Machine

/-- Which input moves now, and what is left of the inputs. A command is taken only while TX_BUSY = 0; while
it is held, time passes and it waits on the port (R137, R282; log 4). With nothing presented, time passes
(R136; log 3). -/
def turn (s : State) : Input × List Input :=
  match s.inputs with
  | [] => (.tick, s.inputs)
  | .cmd w :: rest => if s.txBusy then (.tick, s.inputs) else (.cmd w, rest)
  | .tick :: rest => (.tick, rest)
  | .edge :: rest => (.edge, rest)
  | .rst :: rest => (.rst, rest)

/-- HostCmd(w): the command the word decodes to, or the response (0, 0) of an illegal command with no state
change (R94, R95). -/
def hostCmd (w : CmdWord) (s : State) : Host.Outcome State Fault Refusal :=
  match decode w with
  | .ok i => exec i s
  | .error _ => .next (refuse s)

/-- The release of RST: every register as R48 says, the protocol table untouched (R125, R280), the inputs
still to come kept (log 5). -/
def resetAll (s : State) : State := { State.reset with pt := s.pt, inputs := s.inputs }

/-- One atomic step of the agent whose input moves (R7). -/
def act (i : Input) (s : State) : Host.Outcome State Fault Refusal :=
  match i with
  | .cmd w => hostCmd w s
  | .tick => .next (noResponse (tick s))
  | .edge => .next (noResponse (edge s))
  | .rst => .next (resetAll s)

/-- A TX sequencer with nothing in progress (R29): an idle one is left as it is. -/
def quiesce (s : State) : State := if s.txBusy then { s with txBusy := false, txSegs := [], txRemain := 0 } else s

end Sys2Proof.Machine
end

