-- ==== Sys2Proof/Machine/Step.lean ====
section
/-! DEFINITION. One step of the block: the agent whose turn it is takes its atomic step (00_scope.md R7,
20_memory.md R70). -/

namespace Sys2Proof.Machine

/-- One atomic step (R7): the input whose turn it is leaves the list and acts. -/
def step (s : State) : Host.Outcome State Fault Refusal :=
  act (turn s).1 { s with inputs := (turn s).2 }

/-- The word on the command port, so that the very next step takes it as a command. A command is taken only
while TX_BUSY = 0 (R137), so a transmission in progress is dropped (log 7); nothing else changes. -/
def State.withFetchWord (s : State) (nbits w : Nat) : State :=
  { quiesce s with inputs := .cmd (BitVec.ofNat 48 (w % 2 ^ nbits)) :: s.inputs }

end Sys2Proof.Machine
end

