-- ==== Sys2Proof/Safety.lean ====
section
/-! DEFINITION. What counts as a legal state (the ranges and invariants of 10_state.md R20 to R41), a quiescent
one (R295), and the terms in which statements speak of the block: runs of microseconds, durations of segment
lists, and the groups of registers that one agent owns (R49, R260). -/

namespace Sys2Proof.Machine

/-- A state between steps: every register in its range, the sequencer and the result consistent, the arrays
in canonical form, the table as R122 asks. -/
structure LegalState (s : State) : Prop where
  /-- TX_PROTO is 1 to 6 (R21) -/
  txProto : 1 ≤ s.txProto.toNat ∧ s.txProto.toNat ≤ 6
  /-- TX_BUSY = 0 implies TX_SEGS empty and TX_REMAIN 0 (R29) -/
  idle : s.txBusy = false → s.txSegs = [] ∧ s.txRemain = 0
  /-- TX_BUSY = 1 implies TX_REMAIN at least 1 (R29) -/
  busy : s.txBusy = true → 1 ≤ s.txRemain.toNat
  /-- TX_REMAIN is at most the largest multiplier times the largest unit (R29) -/
  remain : s.txRemain.toNat ≤ 16711425
  /-- and so is the duration of every segment still to come (R29, R121) -/
  segs : ∀ g ∈ s.txSegs, g.dur.toNat ≤ 16711425
  /-- CHANGE_CNT is 0 to 67 (R34) -/
  changeCnt : s.changeCnt.toNat ≤ 67
  /-- CHANGE_CNT is 0 only before the first handled edge after reset (R34) -/
  fresh : s.changeCnt = 0 → s.tb = [] ∧ s.lastTime = 0 ∧ s.repeatCnt = 0
  /-- REPEAT_CNT is 0 or 1 between steps (R35) -/
  repeatCnt : s.repeatCnt.toNat ≤ 1
  /-- without an unread result the four fields are 0 (R48, R231) -/
  cleared : s.resValid = false → s.resValue = 0 ∧ s.resLen = 0 ∧ s.resUnit = 0 ∧ s.resProto = 0
  /-- a published result has index 1 to 6 and length 3 to 33 (R39, R41) -/
  published : s.resValid = true →
    (1 ≤ s.resProto.toNat ∧ s.resProto.toNat ≤ 6) ∧ (3 ≤ s.resLen.toNat ∧ s.resLen.toNat ≤ 33)
  /-- SYM has 32 cells and is in canonical form (R28, R62) -/
  sym : s.sym.wf Config.symCap = true
  /-- TB has 67 cells and is in canonical form (R33, R63) -/
  tb : s.tb.wf Config.cap = true
  /-- the table meets its constraint (R122) -/
  table : tableOk s.pt = true

/-- A quiescent state: nothing on the way out (R295). -/
def Quiescent (s : State) : Prop := s.txBusy = false

/-- `TICK k`: k consecutive TICK steps (30_encoding.md R98). -/
def ticks : Nat → State → State
  | 0, s => s
  | k + 1, s => ticks k (tick s)

/-- `k` steps of the block; none if one of them does not answer a next state. -/
def steps : Nat → State → Option State
  | 0, s => some s
  | k + 1, s =>
    match step s with
    | .next t => steps k t
    | .fault _ => none
    | .refused _ => none

/-- The commands that can start the TX sequencer (R29, R131, R154, R163, R166). -/
def transmits (i : Instr) : Bool :=
  match i with
  | .setProto _ => false
  | .setRep _ => false
  | .cfgOut _ => false
  | .cfgIn _ => false
  | .setTol _ => false
  | .emit _ _ => true
  | .sendBits _ _ => true
  | .putSym _ _ => false
  | .sendBin _ => true
  | .sendTri _ => true
  | .avail => false
  | .rstAvail => false
  | .rdValue => false
  | .rdLen => false
  | .rdUnit => false
  | .rdProto => false

/-- The commands that answer a value: the five reads of the consumer (R91, R230, R232 to R235). -/
def isRead (i : Instr) : Bool :=
  match i with
  | .setProto _ => false
  | .setRep _ => false
  | .cfgOut _ => false
  | .cfgIn _ => false
  | .setTol _ => false
  | .emit _ _ => false
  | .sendBits _ _ => false
  | .putSym _ _ => false
  | .sendBin _ => false
  | .sendTri _ => false
  | .avail => true
  | .rstAvail => false
  | .rdValue => true
  | .rdLen => true
  | .rdUnit => true
  | .rdProto => true

/-- The sum of the durations of a segment list, in microseconds (R138). -/
def totalDur : List Segment → Nat
  | [] => 0
  | g :: rest => g.dur.toNat + totalDur rest

/-- The level of the last segment of a list, or the given one (R134, R138). -/
def lastLevel (l0 : Bool) : List Segment → Bool
  | [] => l0
  | g :: rest => lastLevel g.level rest

/-- The number of 1 bits among `c[L-1 .. 0]` (R168). -/
def onesBelow (c : Word) : Nat → Nat
  | 0 => 0
  | n + 1 => onesBelow c n + (if c.getLsbD n then 1 else 0)

/-- The duration of a send in microseconds, by the formula of R168. -/
def sendDuration (P : Protocol) (c : Word) (len repeats : Nat) : Nat :=
  repeats * (P.unit.toNat *
    ((len - onesBelow c len) * (P.zero.high.toNat + P.zero.low.toNat)
      + onesBelow c len * (P.one.high.toNat + P.one.low.toNat)
      + (P.sync.high.toNat + P.sync.low.toNat)))

/-- The registers that only host commands write: the configuration and SYM (R49, R260). -/
def SameConfig (s t : State) : Prop :=
  t.txProto = s.txProto ∧ t.txRepeat = s.txRepeat ∧ t.outPin = s.outPin ∧ t.inPin = s.inPin ∧
    t.rxTol = s.rxTol ∧ t.sym = s.sym

/-- The registers of the TX sequencer (R29, R49). -/
def SameSequencer (s t : State) : Prop :=
  t.out = s.out ∧ t.txBusy = s.txBusy ∧ t.txSegs = s.txSegs ∧ t.txRemain = s.txRemain

/-- The registers that only EDGE writes (R49). -/
def SameCapture (s t : State) : Prop :=
  t.tb = s.tb ∧ t.changeCnt = s.changeCnt ∧ t.repeatCnt = s.repeatCnt ∧ t.lastTime = s.lastTime

/-- The Decoded Result with its valid bit (R37). -/
def SameResult (s t : State) : Prop :=
  t.resValid = s.resValid ∧ t.resValue = s.resValue ∧ t.resLen = s.resLen ∧ t.resUnit = s.resUnit ∧
    t.resProto = s.resProto

/-- The counters that only TICK writes (R49). -/
def SameTime (s t : State) : Prop := t.tcnt = s.tcnt ∧ t.ovf = s.ovf

/-- Slots `first .. first + 2 * len - 1` of TB hold a frame of code `c` and length `len` with the pair of bit
`len - 1` first, every slot within `dev` of `u` times its multiplier (R68, R190, R213). -/
def HoldsFrame (P : Protocol) (u dev : Nat) (c : Word) (len first : Nat) (tb : Memory 32) : Prop :=
  ∀ k, k < len →
    absdiff (tb.read (first + 2 * k)).toNat (u * (bitPair P (c.getLsbD (len - 1 - k))).high.toNat) ≤ dev ∧
    absdiff (tb.read (first + 2 * k + 1)).toNat (u * (bitPair P (c.getLsbD (len - 1 - k))).low.toNat) ≤ dev

end Sys2Proof.Machine
end

