-- ==== Sys2Proof/Certificates/Slice0/Obligations.lean ====
section
/-! DEFINITION. The statements for the provers. Each docstring names the rules a statement formalises. A
statement about `exec` is about a HostCmd step, which exists only while TX_BUSY = 0 (R137). No statement rests
on the content of the protocol table: `s.pt` is whatever table the state carries (log 1). -/

open Sys2Proof Sys2Proof.Machine

/-! ### Encoding -/

/-- Decoding the word of a command gives the command back, for every command and every operand (R90, R93, R94). -/
def Obligations.DecodeOfEncode : Prop :=
  ∀ i : Instr, decode (encode i) = .ok i

/-- A word has at most one spelling: the command it decodes to is encoded by that very word, so no bit of a
legal word is ignored (R92, R93). -/
def Obligations.EncodeOfDecode : Prop :=
  ∀ (w : CmdWord) (i : Instr), decode w = .ok i → encode i = w

/-- Decoding is total (R94): a word that a row of the opcode map matches by `w AND mask = match` is that row's
command, no word matches two rows, and a word that no row matches is no command. -/
def Obligations.DecodingFollowsTheOpcodeMap : Prop :=
  (∀ (w : CmdWord) (r : OpcodeRow), r ∈ opcodeMap → r.matches w = true → decode w = .ok (r.build (fieldsOf w))) ∧
  (∀ (w : CmdWord) (r r' : OpcodeRow), r ∈ opcodeMap → r' ∈ opcodeMap → r.matches w = true → r'.matches w = true → r = r') ∧
  (∀ w : CmdWord, (∀ r ∈ opcodeMap, r.matches w = false) → ∃ e, decode w = .error e)

/-- Words written out in the spec's test vectors and its rules decode to what the spec says they are. -/
def Obligations.WordsOfTheSpecDecode : Prop :=
  decode 0x016300000000 = .ok (.setProto 99) ∧
  decode 0x10010000001F = .ok (.emit 1 31) ∧
  decode 0x1104FFFFFFF5 = .ok (.sendBits 4 0xFFFFFFF5) ∧
  decode 0x120000000030 = .ok (.putSym 0 0x30) ∧
  decode 0x04FF00000000 = .ok (.cfgIn 0xFF) ∧
  decode 0x053C00000000 = .ok (.setTol 60) ∧
  decode 0x220000000000 = .ok .rdValue ∧
  decode 0x010600000001 = .error .unusedFieldNonzero ∧
  decode 0x260000000000 = .error .reservedOpcode

/-! ### Steps -/

/-- A word on the command port that decodes to a command `i`, taken while TX_BUSY = 0, is `i` carried out on the
state without that input: nothing is added around `exec` (R7, R94, R137). That the port is the head of a list of
inputs is the model's (log 2). -/
def Obligations.StepRunsTheDecodedCommand : Prop :=
  ∀ (s : State) (w : CmdWord) (rest : List Input) (i : Instr),
    s.inputs = .cmd w :: rest → s.txBusy = false → decode w = .ok i → step s = exec i { s with inputs := rest }

/-- A word that no row of the opcode map matches is answered (0, 0) and changes nothing (R95). -/
def Obligations.IllegalCommandChangesNothing : Prop :=
  ∀ (s : State) (w : CmdWord) (rest : List Input),
    s.inputs = .cmd w :: rest → s.txBusy = false → (∀ r ∈ opcodeMap, r.matches w = false) →
    step s = .next { s with inputs := rest, resp := some ⟨false, 0⟩ }

/-- While TX_BUSY = 1 the host has no step (R137): a command on the port is not carried out, and the configuration,
the capture side and the result stay. That the word stays on the port, and that a microsecond is the step taken,
are the model's (log 4), as is the absence of a response (log 6). -/
def Obligations.BusyHoldsTheHost : Prop :=
  ∀ (s : State) (w : CmdWord) (rest : List Input), s.inputs = .cmd w :: rest → s.txBusy = true →
    ∃ t, step s = .next t ∧ t.inputs = s.inputs ∧ t.resp = none ∧ time t = time s + 1 ∧
      SameConfig s t ∧ SameCapture s t ∧ SameResult s t ∧ t.pt = s.pt

/-- The events are steps of their own, enabled in every state, busy or not: a tick is TICK, a level change is
EDGE, and neither leaves a response. With nothing presented a microsecond passes, which is the model's choice
(log 3), as is the absence of a response (log 6). -/
def Obligations.EventsAreSteps : Prop :=
  ∀ (s : State) (rest : List Input),
    (s.inputs = .tick :: rest → step s = .next { tick { s with inputs := rest } with resp := none }) ∧
    (s.inputs = .edge :: rest → step s = .next { edge { s with inputs := rest } with resp := none }) ∧
    (s.inputs = [] → step s = .next { tick s with resp := none })

/-- Nothing is fatal: every step of every state answers a next state (R250, R251). -/
def Obligations.EveryStepAnswersNext : Prop :=
  ∀ s : State, ∃ t, step s = .next t

/-! ### Reset and the invariant -/

/-- After reset every register and cell holds the value of the reset column (R48). -/
def Obligations.ResetValues : Prop :=
  let s := State.reset
  s.txProto = 1 ∧ s.txRepeat = 10 ∧ s.outPin = 0xFF ∧ s.inPin = 0xFF ∧ s.rxTol = 60 ∧ s.out = false ∧
  (∀ i, s.sym.read i = 0) ∧ s.txBusy = false ∧ s.txSegs = [] ∧ s.txRemain = 0 ∧ s.tcnt = 0 ∧ s.ovf = 0 ∧
  s.lastTime = 0 ∧ (∀ i, s.tb.read i = 0) ∧ s.changeCnt = 0 ∧ s.repeatCnt = 0 ∧ s.resValid = false ∧
  s.resValue = 0 ∧ s.resLen = 0 ∧ s.resUnit = 0 ∧ s.resProto = 0

/-- RST brings every register to its reset value at once, a transmission in progress included, and leaves the
protocol table as it is (R125, R280). That one input is a whole assertion and release, and that the inputs
still to come are kept, are the model's (log 5). -/
def Obligations.ResetEndsEverything : Prop :=
  ∀ (s : State) (rest : List Input), s.inputs = .rst :: rest →
    step s = .next { State.reset with pt := s.pt, inputs := rest }

/-- The invariant holds at reset: the registers are as R48 says and the table meets R122, whatever table the free
field `pt` carries; and it holds at `State.reset`, whose table is PT_DEFAULT, a PRESUMED value (log 1). -/
def Obligations.ResetIsALegalState : Prop :=
  (∀ pt : ProtocolTable, tableOk pt = true → LegalState { State.reset with pt := pt }) ∧ LegalState State.reset

/-- Every step keeps the invariant: the sequencer, the capture registers and the result stay in their ranges,
and SYM and TB keep their canonical form (R21, R29, R34, R35, R39, R41, R63). -/
def Obligations.EveryStepKeepsLegalState : Prop :=
  ∀ s t : State, LegalState s → step s = .next t → LegalState t

/-! ### The configuration commands -/

/-- SETPROTO stores an index from 1 to 6 and replaces every other by 1; the response is (1, 0) and nothing else
changes (R150). -/
def Obligations.SetProtoStoresOrClamps : Prop :=
  ∀ (index : Byte) (s : State), s.txBusy = false →
    exec (.setProto index) s = .next
      { s with
        txProto := BitVec.ofNat 3 (if 1 ≤ index.toNat ∧ index.toNat ≤ 6 then index.toNat else 1)
        resp := some ⟨true, 0⟩ }

/-- SETREP stores its operand, every value of it; the response is (1, 0) and nothing else changes (R151). -/
def Obligations.SetRepStores : Prop :=
  ∀ (n : Byte) (s : State), s.txBusy = false →
    exec (.setRep n) s = .next { s with txRepeat := n, resp := some ⟨true, 0⟩ }

/-- CFGOUT stores its operand; the response is (1, 0) and nothing else changes, OUT included (R158). -/
def Obligations.CfgOutStores : Prop :=
  ∀ (pin : Byte) (s : State), s.txBusy = false →
    exec (.cfgOut pin) s = .next { s with outPin := pin, resp := some ⟨true, 0⟩ }

/-- CFGIN stores its operand; the response is (1, 0) and nothing else changes, the capture state included (R180). -/
def Obligations.CfgInStores : Prop :=
  ∀ (pin : Byte) (s : State), s.txBusy = false →
    exec (.cfgIn pin) s = .next { s with inPin := pin, resp := some ⟨true, 0⟩ }

/-- SETTOL stores its operand, every value of it; the response is (1, 0) and nothing else changes (R200). -/
def Obligations.SetTolStores : Prop :=
  ∀ (percent : Byte) (s : State), s.txBusy = false →
    exec (.setTol percent) s = .next { s with rxTol := percent, resp := some ⟨true, 0⟩ }

/-- Which pin a configured output or input pin is has no effect (R24, R25): replacing one configured identity
by another changes no command, no edge and no microsecond but for the identity itself, and a command that sets
the identity ends in the same state whatever it was. -/
def Obligations.PinIdentityHasNoEffect : Prop :=
  ∀ (s : State) (p q : Byte), p ≠ 0xFF → q ≠ 0xFF →
    (s.outPin = p →
      (∀ (i : Instr) (t : State), (∀ x, i ≠ .cfgOut x) → exec i s = .next t →
        exec i { s with outPin := q } = .next { t with outPin := q }) ∧
      (∀ x, exec (.cfgOut x) { s with outPin := q } = exec (.cfgOut x) s) ∧
      edge { s with outPin := q } = { edge s with outPin := q } ∧
      tick { s with outPin := q } = { tick s with outPin := q }) ∧
    (s.inPin = p →
      (∀ (i : Instr) (t : State), (∀ x, i ≠ .cfgIn x) → exec i s = .next t →
        exec i { s with inPin := q } = .next { t with inPin := q }) ∧
      (∀ x, exec (.cfgIn x) { s with inPin := q } = exec (.cfgIn x) s) ∧
      edge { s with inPin := q } = { edge s with inPin := q } ∧
      tick { s with inPin := q } = { tick s with inPin := q })

/-! ### The transmit side -/

/-- The waveform of one pair (R130): the first segment lasts `unit * high` and the second `unit * low`, exactly
(R121); inversion swaps the levels and not the durations. -/
def Obligations.PairWaveform : Prop :=
  ∀ (P : Protocol) (pair : PulsePair), ∃ d1 d2 : BitVec 24,
    pairSegs P pair = [⟨!P.inv, d1⟩, ⟨P.inv, d2⟩] ∧
    d1.toNat = P.unit.toNat * pair.high.toNat ∧ d2.toNat = P.unit.toNat * pair.low.toNat

/-- EMIT (R131): without an output pin a no-op answered (1, 0); with one, the pair is started at once, a
zero-length first segment being passed over (R135), and with two zero-length segments only OUT is left at the
second level. Nothing but the sequencer and the response changes. -/
def Obligations.EmitStartsOnePair : Prop :=
  ∀ (high low : Byte) (s : State), s.txBusy = false →
    let P := protocolAt s.pt s.txProto.toNat
    let d1 := P.unit.toNat * high.toNat
    let d2 := P.unit.toNat * low.toNat
    exec (.emit high low) s = .next
      (if s.outPin = 0xFF then { s with resp := some ⟨true, 0⟩ }
       else if d1 ≠ 0 then
         { s with
           out := !P.inv, txBusy := true, txRemain := BitVec.ofNat 24 d1
           txSegs := [⟨P.inv, BitVec.ofNat 24 d2⟩], resp := some ⟨true, 0⟩ }
       else if d2 ≠ 0 then
         { s with
           out := P.inv, txBusy := true, txRemain := BitVec.ofNat 24 d2, txSegs := [], resp := some ⟨true, 0⟩ }
       else
         { s with out := P.inv, txBusy := false, txRemain := 0, txSegs := [], resp := some ⟨true, 0⟩ })

/-- SENDBITS (R154, R155): a length above 32 is refused with (0, 0) whether or not a pin is configured; without
an output pin a no-op answered (1, 0); otherwise TxStart of the segment list of the send, answered (1, 0). -/
def Obligations.SendBitsStartsTheSend : Prop :=
  ∀ (bitLength : Byte) (codeValue : Word) (s : State), s.txBusy = false →
    exec (.sendBits bitLength codeValue) s = .next
      (if 32 < bitLength.toNat then { s with resp := some ⟨false, 0⟩ }
       else if s.outPin = 0xFF then { s with resp := some ⟨true, 0⟩ }
       else
         { txStart (sendSegs (protocolAt s.pt s.txProto.toNat) codeValue bitLength.toNat s.txRepeat.toNat) s with
           resp := some ⟨true, 0⟩ })

/-- SENDBIN (R163, R164): above 32 characters refused with (0, 0); otherwise it is SENDBITS of length `n` with
the code whose bit `n-1-k` is 0 exactly when `SYM[k]` is '0', and it answers (1, 0): a no-op without an output
pin, else TxStart of that send.
The code 0x30 of '0' is presumed by the spec (R14, log 13). -/
def Obligations.SendBinSendsTheBinaryString : Prop :=
  ∀ (n : Byte) (s : State), s.txBusy = false →
    (32 < n.toNat → exec (.sendBin n) s = .next { s with resp := some ⟨false, 0⟩ }) ∧
    (n.toNat ≤ 32 → ∃ c : Word,
      (∀ k, k < n.toNat → c.getLsbD (n.toNat - 1 - k) = decide (s.sym.read k ≠ 0x30)) ∧
      (∀ k, n.toNat ≤ k → c.getLsbD k = false) ∧
      exec (.sendBin n) s = exec (.sendBits n c) s ∧
      exec (.sendBin n) s = .next
        (if s.outPin = 0xFF then { s with resp := some ⟨true, 0⟩ }
         else
           { txStart (sendSegs (protocolAt s.pt s.txProto.toNat) c n.toNat s.txRepeat.toNat) s with
             resp := some ⟨true, 0⟩ }))

/-- SENDTRI (R166, R167): above 16 symbols, or with a symbol among the first `n` that is not '0', 'F' or '1',
refused with (0, 0) whether or not a pin is configured; otherwise it is SENDBITS of length `2n` with the code
whose bits `2(n-1-k)+1` and `2(n-1-k)` are 00, 01 or 11 as `SYM[k]` is '0', 'F' or '1' (R101), and it answers
(1, 0): a no-op without an output pin, else TxStart of that send.
The codes of the three symbols are presumed by the spec (R14, log 13). -/
def Obligations.SendTriSendsTheTriStateString : Prop :=
  ∀ (n : Byte) (s : State), s.txBusy = false →
    (16 < n.toNat → exec (.sendTri n) s = .next { s with resp := some ⟨false, 0⟩ }) ∧
    (n.toNat ≤ 16 → (∃ k, k < n.toNat ∧ s.sym.read k ≠ 0x30 ∧ s.sym.read k ≠ 0x46 ∧ s.sym.read k ≠ 0x31) →
      exec (.sendTri n) s = .next { s with resp := some ⟨false, 0⟩ }) ∧
    (n.toNat ≤ 16 → (∀ k, k < n.toNat → s.sym.read k = 0x30 ∨ s.sym.read k = 0x46 ∨ s.sym.read k = 0x31) →
      ∃ c : Word,
        (∀ k, k < n.toNat →
          c.getLsbD (2 * (n.toNat - 1 - k) + 1) = decide (s.sym.read k = 0x31) ∧
          c.getLsbD (2 * (n.toNat - 1 - k)) = decide (s.sym.read k ≠ 0x30)) ∧
        (∀ k, 2 * n.toNat ≤ k → c.getLsbD k = false) ∧
        exec (.sendTri n) s = exec (.sendBits (BitVec.ofNat 8 (2 * n.toNat)) c) s ∧
        exec (.sendTri n) s = .next
          (if s.outPin = 0xFF then { s with resp := some ⟨true, 0⟩ }
           else
             { txStart (sendSegs (protocolAt s.pt s.txProto.toNat) c (2 * n.toNat) s.txRepeat.toNat) s with
               resp := some ⟨true, 0⟩ }))

/-- PUTSYM (R160): an index above 31 is refused with (0, 0) and nothing is written; otherwise the cell takes the
character, every other cell reads as before, and nothing else changes. -/
def Obligations.PutSymWritesOneCell : Prop :=
  ∀ (index character : Byte) (s : State), s.txBusy = false → s.sym.wf 32 = true →
    (31 < index.toNat → exec (.putSym index character) s = .next { s with resp := some ⟨false, 0⟩ }) ∧
    (index.toNat ≤ 31 → ∃ m : Memory 8,
      exec (.putSym index character) s = .next { s with sym := m, resp := some ⟨true, 0⟩ } ∧
      m.read index.toNat = character ∧ (∀ a, a ≠ index.toNat → m.read a = s.sym.read a) ∧ m.wf 32 = true)

/-- The segment list of a send (R153): `R` frames of `2L + 2` segments; in each frame the pair of bit `L-1-m`
stands at `2m`, `2m+1` for every `m < L`, and the sync pair at `2L`, `2L+1`: once per frame. -/
def Obligations.SegmentListOfASend : Prop :=
  ∀ (P : Protocol) (c : Word) (L R : Nat),
    (sendSegs P c L R).length = R * (2 * L + 2) ∧
    ∀ f, f < R →
      (∀ m, m < L →
        ((sendSegs P c L R).drop (f * (2 * L + 2) + 2 * m)).take 2 = pairSegs P (bitPair P (c.getLsbD (L - 1 - m)))) ∧
      ((sendSegs P c L R).drop (f * (2 * L + 2) + 2 * L)).take 2 = pairSegs P P.sync

/-- The whole transmission, as the spec derives it in R138 from R132, R133 and R136: from the step that starts a segment list, TX_BUSY is 1 for exactly the sum of
the durations; in the microseconds of a segment OUT has that segment's level; afterwards OUT stays at the level
of the last segment; T counts on. -/
def Obligations.WholeTransmission : Prop :=
  ∀ (s : State) (segs : List Segment), s.txBusy = false →
    (∀ k, (ticks k (txStart segs s)).txBusy = decide (k < totalDur segs)) ∧
    (∀ (pre : List Segment) (g : Segment) (post : List Segment) (k : Nat), segs = pre ++ g :: post →
      totalDur pre ≤ k → k < totalDur pre + g.dur.toNat → (ticks k (txStart segs s)).out = g.level) ∧
    (∀ k, totalDur segs ≤ k → (ticks k (txStart segs s)).out = lastLevel s.out segs) ∧
    (∀ k, time (ticks k (txStart segs s)) = time s + BitVec.ofNat 32 k)

/-- The duration of a send is the formula the spec derives in R168 from R153 and R138. -/
def Obligations.DurationOfASend : Prop :=
  ∀ (P : Protocol) (c : Word) (L R : Nat), totalDur (sendSegs P c L R) = sendDuration P c L R

/-- An accepted SENDBITS holds the host for exactly the duration of the send, no microsecond less or more
(R137, R285; the length is the spec's derived R168). -/
def Obligations.SendHoldsTheHostExactly : Prop :=
  ∀ (bitLength : Byte) (codeValue : Word) (s : State),
    s.txBusy = false → bitLength.toNat ≤ 32 → s.outPin ≠ 0xFF →
    ∃ t, exec (.sendBits bitLength codeValue) s = .next t ∧ ∀ k, (ticks k t).txBusy =
      decide (k < sendDuration (protocolAt s.pt s.txProto.toNat) codeValue bitLength.toNat s.txRepeat.toNat)

/-- While TX_BUSY = 1 the host has no step (R137), and a transmission ends after its remaining microseconds (R138):
a word on the port is not taken before that, and the next step after it is its HostCmd. That the word waits on the
port meanwhile, and that time passes while it waits, are the model's (log 4). -/
def Obligations.HeldCommandIsTakenWhenTheHoldEnds : Prop :=
  ∀ (s : State) (w : CmdWord) (rest : List Input), LegalState s → s.txBusy = true → s.inputs = .cmd w :: rest →
    (∀ k, k < s.txRemain.toNat + totalDur s.txSegs →
      ∃ t, steps k s = some t ∧ t.txBusy = true ∧ t.inputs = .cmd w :: rest) ∧
    (∃ t, steps (s.txRemain.toNat + totalDur s.txSegs) s = some t ∧ Quiescent t ∧ t.inputs = .cmd w :: rest ∧
      step t = hostCmd w { t with inputs := rest })

/-- TICK (R31, R136): T counts by 1 modulo 2^32 with the carry from TCNT into OVF in the same step; the receive
side, the result and the configuration are untouched. -/
def Obligations.TickCountsTime : Prop :=
  ∀ s : State,
    time (tick s) = time s + 1 ∧ (tick s).tcnt = s.tcnt + 1 ∧
    (s.tcnt ≠ 0xFFFF → (tick s).ovf = s.ovf) ∧ (s.tcnt = 0xFFFF → (tick s).ovf = s.ovf + 1) ∧
    SameCapture s (tick s) ∧ SameResult s (tick s) ∧ SameConfig s (tick s) ∧ (tick s).pt = s.pt

/-- TICK and the sequencer (R133, R136): an idle one stays as it is; a segment with more than a microsecond left
goes on; at its last microsecond the next segment of nonzero duration starts, or the sequencer becomes idle. -/
def Obligations.TickAdvancesTheSequencer : Prop :=
  ∀ s : State,
    (s.txBusy = false → SameSequencer s (tick s)) ∧
    (s.txBusy = true → 2 ≤ s.txRemain.toNat →
      (tick s).out = s.out ∧ (tick s).txBusy = true ∧ (tick s).txSegs = s.txSegs ∧
      (tick s).txRemain.toNat = s.txRemain.toNat - 1) ∧
    (s.txBusy = true → s.txRemain = 1 → s.txSegs = [] →
      (tick s).out = s.out ∧ (tick s).txBusy = false ∧ (tick s).txSegs = [] ∧ (tick s).txRemain = 0) ∧
    (∀ g rest, s.txBusy = true → s.txRemain = 1 → s.txSegs = g :: rest → g.dur ≠ 0 →
      (tick s).out = g.level ∧ (tick s).txBusy = true ∧ (tick s).txSegs = rest ∧ (tick s).txRemain = g.dur)

/-! ### The capture side -/

/-- Without an input line an edge changes no state (R182, R254). -/
def Obligations.EdgeWithoutInputLine : Prop :=
  ∀ s : State, s.inPin = 0xFF → edge s = s

/-- A duration of 4300 or less with room in the buffer is appended, and nothing else happens (R182, R183,
R187). The capacity 67 is presumed by the spec (R33, log 13). -/
def Obligations.EdgeAppendsData : Prop :=
  ∀ s : State, s.inPin ≠ 0xFF → (time s - s.lastTime).toNat ≤ 4300 → s.changeCnt.toNat < 67 →
    edge s =
      { s with
        tb := s.tb.write s.changeCnt.toNat (time s - s.lastTime)
        changeCnt := s.changeCnt + 1
        lastTime := time s }

/-- A duration of 4300 or less at a full buffer discards the frame: the index and the repeat counter go to 0 and
the duration goes to slot 0 (R186). The capacity 67 is presumed by the spec (R33, log 13). -/
def Obligations.EdgeAtFullBuffer : Prop :=
  ∀ s : State, s.inPin ≠ 0xFF → (time s - s.lastTime).toNat ≤ 4300 → s.changeCnt = 67 →
    edge s =
      { s with tb := s.tb.write 0 (time s - s.lastTime), changeCnt := 1, repeatCnt := 0, lastTime := time s }

/-- A candidate gap that is more than 200 away from slot 0 clears the repeat counter, decodes nothing and becomes
the new slot 0 (R183, R184, R185, R187). -/
def Obligations.GapThatDoesNotQualify : Prop :=
  ∀ s : State, s.inPin ≠ 0xFF → 4300 < (time s - s.lastTime).toNat →
    200 < absdiff (time s - s.lastTime).toNat (s.tb.read 0).toNat →
    edge s =
      { s with tb := s.tb.write 0 (time s - s.lastTime), changeCnt := 1, repeatCnt := 0, lastTime := time s }

/-- The first of two consecutive qualifying gaps only counts: no decode is attempted (R184, R185, R189). -/
def Obligations.FirstQualifyingGapCounts : Prop :=
  ∀ s : State, s.inPin ≠ 0xFF → 4300 < (time s - s.lastTime).toNat →
    absdiff (time s - s.lastTime).toNat (s.tb.read 0).toNat ≤ 200 → s.repeatCnt = 0 →
    edge s =
      { s with tb := s.tb.write 0 (time s - s.lastTime), changeCnt := 1, repeatCnt := 1, lastTime := time s }

/-- The second of two consecutive qualifying gaps tries the six protocols in order on the buffer as it stood,
with CHANGE_CNT as it stood: the first success is published, none publishes nothing; the repeat counter returns
to 0 and the gap becomes the new slot 0 (R184, R185, R188, R220). -/
def Obligations.SecondQualifyingGapDecodes : Prop :=
  ∀ s : State, s.inPin ≠ 0xFF → 4300 < (time s - s.lastTime).toNat →
    absdiff (time s - s.lastTime).toNat (s.tb.read 0).toNat ≤ 200 → s.repeatCnt = 1 →
    ((∀ p, 1 ≤ p → p ≤ 6 → tryDecode p s.changeCnt.toNat s = none) →
      edge s =
        { s with tb := s.tb.write 0 (time s - s.lastTime), changeCnt := 1, repeatCnt := 0, lastTime := time s }) ∧
    (∀ p r, 1 ≤ p → p ≤ 6 → tryDecode p s.changeCnt.toNat s = some r →
      (∀ q, 1 ≤ q → q < p → tryDecode q s.changeCnt.toNat s = none) →
      edge s =
        { s with
          tb := s.tb.write 0 (time s - s.lastTime), changeCnt := 1, repeatCnt := 0, lastTime := time s
          resValid := true, resValue := r.value, resLen := r.len, resUnit := r.unit, resProto := r.proto })

/-- Every handled edge writes exactly one slot (R187): after it CHANGE_CNT is 1 to 67, the slot below it holds
the duration, every other slot reads as before, LAST_TIME is T, and neither the configuration, nor the
sequencer, nor T is touched. After a candidate gap that slot is slot 0; any other duration goes to the slot
CHANGE_CNT names, or to slot 0 of a full buffer (R186). The capacity 67 is presumed by the spec (R33, log 13). -/
def Obligations.EdgeWritesOneSlot : Prop :=
  ∀ s : State, s.inPin ≠ 0xFF → s.tb.wf 67 = true →
    let t := edge s
    let d := time s - s.lastTime
    1 ≤ t.changeCnt.toNat ∧ t.changeCnt.toNat ≤ 67 ∧
    t.tb.read (t.changeCnt.toNat - 1) = d ∧
    (∀ a, a ≠ t.changeCnt.toNat - 1 → t.tb.read a = s.tb.read a) ∧
    (4300 < d.toNat → t.changeCnt = 1) ∧
    (d.toNat ≤ 4300 → t.changeCnt.toNat = (if s.changeCnt.toNat < 67 then s.changeCnt.toNat + 1 else 1)) ∧
    t.lastTime = time s ∧ SameConfig s t ∧ SameSequencer s t ∧ SameTime s t

/-! ### The matcher and the coordinator -/

/-- The noise-length guard (R208): an edge count of at most 7 is rejected whatever the pulses are. -/
def Obligations.ShortCapturesAreRejected : Prop :=
  ∀ (p E : Nat) (s : State), E ≤ 7 → tryDecode p E s = none

/-- What a successful decode publishes besides the code (R202, R209): the length `(E-1) div 2`, the unit
`TB[0] div SyncCount(P)`, the protocol index. -/
def Obligations.PublishedLengthUnitAndIndex : Prop :=
  ∀ (p E : Nat) (s : State) (r : Decoded), 1 ≤ p → p ≤ 6 → E ≤ 67 → tableOk s.pt = true →
    tryDecode p E s = some r →
    7 < E ∧ r.len.toNat = (E - 1) / 2 ∧ r.proto.toNat = p ∧
    r.unit.toNat = (s.tb.read 0).toNat /
      max (protocolAt s.pt p).sync.high.toNat (protocolAt s.pt p).sync.low.toNat

/-- The loop of the matcher (R201, R204, R206, R207): it consumes the `(E - start) div 2` pairs that lie wholly
inside slots `0 .. E-1`; one pair that fits neither pattern fails the whole attempt; otherwise the first pair
gives the most significant bit of the code, and of more than 32 bits the last 32 are kept. -/
def Obligations.MatcherConsumesEveryWholePair : Prop :=
  ∀ (P : Protocol) (u t : Nat) (tb : Memory 32) (E start : Nat),
    let n := (E - start) / 2
    let bit := fun k => classify P u t (tb.read (start + 2 * k)).toNat (tb.read (start + 2 * k + 1)).toNat
    ((∃ k, k < n ∧ bit k = none) → matchLoop P u t tb E E start 0 = none) ∧
    ((∀ k, k < n → bit k ≠ none) → ∃ code : Word, matchLoop P u t tb E E start 0 = some code ∧
      (∀ k, k < n → n - 1 - k < 32 → bit k = some (code.getLsbD (n - 1 - k))) ∧
      (∀ m, n ≤ m → code.getLsbD m = false))

/-- The matcher never reads a slot at or above the edge count (R215): two buffers that agree below it give the
same outcome, under the same tolerance and table. -/
def Obligations.MatcherSeesOnlyTheRecordedSlots : Prop :=
  ∀ (p E : Nat) (s s' : State), s'.rxTol = s.rxTol → s'.pt = s.pt →
    (∀ a, a < E → s'.tb.read a = s.tb.read a) → tryDecode p E s' = tryDecode p E s

/-- A pair of slots is a 0 if it fits the zero pattern, else a 1 if it fits the one pattern, else no bit; a
deviation of exactly the tolerance fits (R12, R102). -/
def Obligations.PairClassification : Prop :=
  ∀ (P : Protocol) (u t x y : Nat),
    let fits := fun pair : PulsePair => absdiff x (u * pair.high.toNat) ≤ t ∧ absdiff y (u * pair.low.toNat) ≤ t
    (fits P.zero → classify P u t x y = some false) ∧
    (¬ fits P.zero → fits P.one → classify P u t x y = some true) ∧
    (¬ fits P.zero → ¬ fits P.one → classify P u t x y = none)

/-- The coordinator publishes the success of the lowest index among 1 to 6 and nothing else, and leaves every
register alone when no protocol succeeds (R220, R221, R222, R223). -/
def Obligations.CoordinatorTakesTheLowestIndex : Prop :=
  ∀ (E : Nat) (s : State),
    ((∀ p, 1 ≤ p → p ≤ 6 → tryDecode p E s = none) → coord E s = s) ∧
    (∀ p r, 1 ≤ p → p ≤ 6 → tryDecode p E s = some r → (∀ q, 1 ≤ q → q < p → tryDecode q E s = none) →
      coord E s =
        { s with
          resValid := true, resValue := r.value, resLen := r.len, resUnit := r.unit, resProto := r.proto })

/-- The round-trip law at the matcher's level (95_test_vectors.md RT1, conflict C7): a buffer that holds the
exact frame of code `c` and length `L` (3 to 32) under protocol `p`, its gap in slot 0, decodes to exactly the
low `L` bits of `c`, length `L`, the table's unit and index `p`, provided the gap carries the larger sync
multiplier and the two data patterns can be told apart at the tolerance set. -/
def Obligations.RoundTripThroughTheMatcher : Prop :=
  ∀ (s : State) (p L : Nat) (c : Word), 1 ≤ p → p ≤ 6 → 3 ≤ L → L ≤ 32 →
    let P := protocolAt s.pt p
    let gap := if P.inv then P.sync.high.toNat else P.sync.low.toNat
    let tol := P.unit.toNat * s.rxTol.toNat / 100
    (if P.inv then P.sync.low.toNat ≤ P.sync.high.toNat else P.sync.high.toNat ≤ P.sync.low.toNat) → 1 ≤ gap →
    (tol < P.unit.toNat * absdiff P.one.high.toNat P.zero.high.toNat ∨
      tol < P.unit.toNat * absdiff P.one.low.toNat P.zero.low.toNat) →
    (s.tb.read 0).toNat = P.unit.toNat * gap →
    HoldsFrame P P.unit.toNat 0 c L (if P.inv then 2 else 1) s.tb →
    tryDecode p (2 * L + 2) s = some
      { value := BitVec.ofNat 32 (c.toNat % 2 ^ L), len := BitVec.ofNat 8 L
        unit := P.unit.zeroExtend 32, proto := BitVec.ofNat 3 p }

/-- The tolerance law, which the spec derives in R213 from R201 and R102: a frame whose data slots deviate by at most the tolerance from the measured unit's
expectations decodes to the code sent, when no one-pair also fits the zero pattern; and a consumed pair with a
slot that deviates by more than the tolerance from both patterns fails the decode. -/
def Obligations.ToleranceLaw : Prop :=
  ∀ (s : State) (p : Nat), 1 ≤ p → p ≤ 6 →
    let P := protocolAt s.pt p
    let u := unitEstimate P s.tb
    let tol := u * s.rxTol.toNat / 100
    let start := if P.inv then 2 else 1
    (∀ (L : Nat) (c : Word), 3 ≤ L → L ≤ 32 → HoldsFrame P u tol c L start s.tb →
      (∀ k, k < L → c.getLsbD (L - 1 - k) = true →
        ¬ (absdiff (s.tb.read (start + 2 * k)).toNat (u * P.zero.high.toNat) ≤ tol ∧
           absdiff (s.tb.read (start + 2 * k + 1)).toNat (u * P.zero.low.toNat) ≤ tol)) →
      ∃ r, tryDecode p (2 * L + 2) s = some r ∧ r.value.toNat = c.toNat % 2 ^ L ∧ r.len.toNat = L) ∧
    (∀ E k : Nat, start + 2 * k + 1 < E →
      ((tol < absdiff (s.tb.read (start + 2 * k)).toNat (u * P.zero.high.toNat) ∧
        tol < absdiff (s.tb.read (start + 2 * k)).toNat (u * P.one.high.toNat)) ∨
       (tol < absdiff (s.tb.read (start + 2 * k + 1)).toNat (u * P.zero.low.toNat) ∧
        tol < absdiff (s.tb.read (start + 2 * k + 1)).toNat (u * P.one.low.toNat))) →
      tryDecode p E s = none)

/-! ### The consumer -/

/-- The five reads answer OK = 1 and the register they name, and change nothing (R230, R232, R233, R234, R235). -/
def Obligations.ReadsAnswerTheResult : Prop :=
  ∀ s : State, s.txBusy = false →
    exec .avail s = .next { s with resp := some ⟨true, if s.resValid then 1 else 0⟩ } ∧
    exec .rdValue s = .next { s with resp := some ⟨true, s.resValue⟩ } ∧
    exec .rdLen s = .next { s with resp := some ⟨true, BitVec.ofNat 32 s.resLen.toNat⟩ } ∧
    exec .rdUnit s = .next { s with resp := some ⟨true, s.resUnit⟩ } ∧
    exec .rdProto s = .next { s with resp := some ⟨true, BitVec.ofNat 32 s.resProto.toNat⟩ }

/-- RSTAVAIL clears RES_VALID and the four fields together, answers (1, 0) and changes nothing else (R231). -/
def Obligations.RstAvailClearsTheResult : Prop :=
  ∀ s : State, s.txBusy = false →
    exec .rstAvail s = .next
      { s with
        resValid := false, resValue := 0, resLen := 0, resUnit := 0, resProto := 0, resp := some ⟨true, 0⟩ }

/-! ### Rules of the whole block -/

/-- Every command returns a response (R91): RSP is 0 for every command that is not a read, and OK = 0 means that
the command was refused and changed no state, its response being (0, 0). -/
def Obligations.ResponsesOfCommands : Prop :=
  ∀ (i : Instr) (s t : State), exec i s = .next t →
    ∃ r, t.resp = some r ∧ (isRead i = false → r.rsp = 0) ∧
      (r.ok = false → t = { s with resp := some ⟨false, 0⟩ })

/-- What no command writes (R49): the capture registers and every slot of TB, T, the protocol table. -/
def Obligations.CommandsLeaveCaptureAndTime : Prop :=
  ∀ (i : Instr) (s t : State), exec i s = .next t →
    SameCapture s t ∧ SameTime s t ∧ t.pt = s.pt ∧ t.inputs = s.inputs ∧ ∀ a, t.tb.read a = s.tb.read a

/-- The frame of EMIT, SENDBITS, SENDBIN and SENDTRI (R23, R49): only the sequencer and the response may change.
The configuration, the result, the capture registers, T, the protocol table and the inputs still to come stay,
and every cell of SYM and of TB reads as before. -/
def Obligations.TransmitCommandsKeepConfigAndResult : Prop :=
  ∀ (i : Instr) (s t : State), transmits i = true → exec i s = .next t →
    SameConfig s t ∧ SameResult s t ∧ SameCapture s t ∧ SameTime s t ∧ t.pt = s.pt ∧ t.inputs = s.inputs ∧
      (∀ a, t.sym.read a = s.sym.read a) ∧ (∀ a, t.tb.read a = s.tb.read a)

/-- OUT and the rest of the sequencer move only in TICK, in a transmit command and in a reset (R134): an EDGE, an
illegal word and every other command leave them alone. -/
def Obligations.OnlyTheSequencerDrivesTheLine : Prop :=
  ∀ s t : State, step s = .next t → (turn s).1 ≠ .tick → (turn s).1 ≠ .rst →
    (∀ w i, (turn s).1 = .cmd w → decode w = .ok i → transmits i = false) → SameSequencer s t

/-- Only EDGE, RSTAVAIL and a reset change the Decoded Result (R36, R49). -/
def Obligations.OnlyEdgeAndRstAvailChangeTheResult : Prop :=
  ∀ s t : State, step s = .next t → (turn s).1 ≠ .edge → (turn s).1 ≠ .rst →
    (turn s).1 ≠ .cmd (encode .rstAvail) → SameResult s t

/-- While no input line is configured nothing but RSTAVAIL and a reset changes the Decoded Result, so the four
reads belong to one decode (R286). -/
def Obligations.ResultIsStableWithoutInputLine : Prop :=
  ∀ s t : State, s.inPin = 0xFF → step s = .next t → (turn s).1 ≠ .rst →
    (turn s).1 ≠ .cmd (encode .rstAvail) → SameResult s t

/-- The host can read the Decoded Result and nothing else (R238): the response to a command is the same in two
states that agree on the result, whatever the configuration, the symbols, the sequencer, the capture side, T and
the table are. Of SENDTRI alone it is also asked that the symbols agree: SYM shows in its refusal (R167). -/
def Obligations.ResponsesShowOnlyTheResult : Prop :=
  ∀ (i : Instr) (s s' t t' : State), SameResult s s' → (∀ n, i = .sendTri n → s'.sym = s.sym) →
    exec i s = .next t → exec i s' = .next t' → t'.resp = t.resp

/-- The transmit side does not disturb reception (R288): what an edge does to the capture registers and the result
depends on the input pin, the tolerance, the table, T, the capture registers and the result alone. -/
def Obligations.CaptureIgnoresTheTransmitSide : Prop :=
  ∀ s s' : State, s'.inPin = s.inPin → s'.rxTol = s.rxTol → s'.pt = s.pt → SameTime s s' → SameCapture s s' →
    SameResult s s' → SameCapture (edge s) (edge s') ∧ SameResult (edge s) (edge s')

/-- The canonical form of the arrays (log 10): two listings in canonical form that read alike at every index are
the same data. This is about the model's representation, not a rule of the spec. -/
def Obligations.EqualContentsAreEqualData : Prop :=
  ∀ (w size : Nat) (m m' : Memory w), m.wf size = true → m'.wf size = true → (∀ i, m.read i = m'.read i) → m = m'

/-! ### The protocol table -/

/-- PROTOCOLAT(index) is entry `index` of the table, for each of the six indices (R124). -/
def Obligations.ProtocolAtIsTheTableEntry : Prop :=
  ∀ pt : ProtocolTable,
    protocolAt pt 1 = pt.p1 ∧ protocolAt pt 2 = pt.p2 ∧ protocolAt pt 3 = pt.p3 ∧
    protocolAt pt 4 = pt.p4 ∧ protocolAt pt 5 = pt.p5 ∧ protocolAt pt 6 = pt.p6
end

