-- ==== Sys2Proof/Laws/Memory.lean ====
section
/-! SUPPORT. The laws of the cell arrays: read after write, and every write keeps the canonical form. -/

namespace Sys2Proof.Machine

theorem memory_read_cons {w : Nat} (i j : Nat) (v : BitVec w) (m : Memory w)
    (h : ∀ x ∈ m, i < x.1) : Memory.read (Memory.cons i v m) j = if i = j then v else Memory.read m j := by
  have low : ∀ (m : Memory w), (∀ x ∈ m, j < x.1) → Memory.read m j = Memory.unlisted w := by
    intro m
    induction m with
    | nil => intro _; rfl
    | cons x m ih =>
      intro hx
      have h1 := hx x (by simp)
      rw [show (x :: m : Memory w) = (x.1, x.2) :: m from rfl, Memory.read, if_neg (by omega)]
      exact ih fun y hy => hx y (by simp [hy])
  unfold Memory.cons
  split
  · rename_i hv
    split
    · rename_i hij
      rw [low m (by simpa [hij] using h), hv]
    · rfl
  · rfl

theorem memory_wfFrom_mono {w : Nat} {size lo lo' : Nat} {m : Memory w} (hlo : lo' ≤ lo)
    (h : Memory.wfFrom size lo m = true) : Memory.wfFrom size lo' m = true := by
  cases m with
  | nil => rfl
  | cons x m =>
    simp only [Memory.wfFrom, Bool.and_eq_true, decide_eq_true_eq] at h ⊢
    exact ⟨⟨⟨by omega, h.1.1.2⟩, h.1.2⟩, h.2⟩

theorem memory_wfFrom_lower {w : Nat} {size lo : Nat} {m : Memory w}
    (h : Memory.wfFrom size lo m = true) : ∀ x ∈ m, lo ≤ x.1 := by
  induction m generalizing lo with
  | nil => simp
  | cons x m ih =>
    simp only [Memory.wfFrom, Bool.and_eq_true, decide_eq_true_eq] at h
    intro y hy
    rcases List.mem_cons.1 hy with rfl | hy
    · exact h.1.1.1
    · have := ih h.2 y hy
      omega

theorem memory_cons_wfFrom {w : Nat} {size lo i : Nat} {v : BitVec w} {m : Memory w} (hlo : lo ≤ i)
    (hi : i < size) (h : Memory.wfFrom size (i + 1) m = true) :
    Memory.wfFrom size lo (Memory.cons i v m) = true := by
  unfold Memory.cons
  split
  · exact memory_wfFrom_mono (by omega) h
  · simp only [Memory.wfFrom, Bool.and_eq_true, decide_eq_true_eq]
    exact ⟨⟨⟨hlo, hi⟩, by assumption⟩, h⟩

theorem memory_write_wfFrom {w : Nat} {size lo i : Nat} {v : BitVec w} {m : Memory w} (hlo : lo ≤ i)
    (hi : i < size) (h : Memory.wfFrom size lo m = true) :
    Memory.wfFrom size lo (Memory.write m i v) = true := by
  induction m generalizing lo with
  | nil => exact memory_cons_wfFrom hlo hi rfl
  | cons x m ih =>
    obtain ⟨a, u⟩ := x
    have h' := h
    simp only [Memory.wfFrom, Bool.and_eq_true, decide_eq_true_eq] at h'
    unfold Memory.write
    split
    · refine memory_cons_wfFrom hlo hi ?_
      simp only [Memory.wfFrom, Bool.and_eq_true, decide_eq_true_eq]
      exact ⟨⟨⟨by omega, h'.1.1.2⟩, h'.1.2⟩, h'.2⟩
    · split
      · subst_vars
        exact memory_cons_wfFrom hlo hi h'.2
      · simp only [Memory.wfFrom, Bool.and_eq_true, decide_eq_true_eq]
        exact ⟨h'.1, ih (by omega) h'.2⟩

/-- A write inside a space keeps its canonical form. -/
theorem memory_write_wf {w : Nat} {size i : Nat} {v : BitVec w} {m : Memory w} (hi : i < size)
    (h : Memory.wf size m = true) : Memory.wf size (Memory.write m i v) = true :=
  memory_write_wfFrom (Nat.zero_le _) hi h

/-- The empty listing is in canonical form. -/
theorem memory_nil_wf (w size : Nat) : Memory.wf (w := w) size [] = true := rfl

theorem memory_read_write_from {w : Nat} {size lo : Nat} (m : Memory w) (i j : Nat) (v : BitVec w)
    (h : Memory.wfFrom size lo m = true) :
    Memory.read (Memory.write m i v) j = if i = j then v else Memory.read m j := by
  induction m generalizing lo with
  | nil => exact memory_read_cons i j v [] (by simp)
  | cons x m ih =>
    obtain ⟨a, u⟩ := x
    have h' := h
    simp only [Memory.wfFrom, Bool.and_eq_true, decide_eq_true_eq] at h'
    have above := memory_wfFrom_lower h'.2
    unfold Memory.write
    split
    · rename_i hia
      refine memory_read_cons i j v _ ?_
      intro y hy
      rcases List.mem_cons.1 hy with rfl | hy
      · exact hia
      · have := above y hy
        omega
    · split
      · rename_i hia
        subst hia
        rw [memory_read_cons i j v m (fun y hy => above y hy)]
        by_cases hij : i = j
        · simp [hij]
        · simp [hij, Memory.read]
      · rename_i hlt hne
        simp only [Memory.read]
        rw [ih h'.2]
        by_cases haj : a = j
        · subst haj
          simp [hne]
        · simp [haj]

/-- Reading after a write: the written cell has the new value, every other cell its old one (R64, R67). -/
theorem memory_read_write {w : Nat} {size : Nat} (m : Memory w) (i j : Nat) (v : BitVec w)
    (h : Memory.wf size m = true) :
    Memory.read (Memory.write m i v) j = if i = j then v else Memory.read m j :=
  memory_read_write_from m i j v h

end Sys2Proof.Machine
end

