-- ==== Sys2Proof/Laws/State.lean ====
section
/-! SUPPORT. One lemma per field and shared update: what each named update leaves and what it sets. -/

namespace Sys2Proof.Machine

@[simp] theorem respond_txProto (ok : Bool) (rsp : Word) (s : State) : (respond ok rsp s).txProto = s.txProto := rfl
@[simp] theorem respond_txRepeat (ok : Bool) (rsp : Word) (s : State) : (respond ok rsp s).txRepeat = s.txRepeat := rfl
@[simp] theorem respond_outPin (ok : Bool) (rsp : Word) (s : State) : (respond ok rsp s).outPin = s.outPin := rfl
@[simp] theorem respond_inPin (ok : Bool) (rsp : Word) (s : State) : (respond ok rsp s).inPin = s.inPin := rfl
@[simp] theorem respond_rxTol (ok : Bool) (rsp : Word) (s : State) : (respond ok rsp s).rxTol = s.rxTol := rfl
@[simp] theorem respond_out (ok : Bool) (rsp : Word) (s : State) : (respond ok rsp s).out = s.out := rfl
@[simp] theorem respond_sym (ok : Bool) (rsp : Word) (s : State) : (respond ok rsp s).sym = s.sym := rfl
@[simp] theorem respond_txBusy (ok : Bool) (rsp : Word) (s : State) : (respond ok rsp s).txBusy = s.txBusy := rfl
@[simp] theorem respond_txSegs (ok : Bool) (rsp : Word) (s : State) : (respond ok rsp s).txSegs = s.txSegs := rfl
@[simp] theorem respond_txRemain (ok : Bool) (rsp : Word) (s : State) : (respond ok rsp s).txRemain = s.txRemain := rfl
@[simp] theorem respond_tcnt (ok : Bool) (rsp : Word) (s : State) : (respond ok rsp s).tcnt = s.tcnt := rfl
@[simp] theorem respond_ovf (ok : Bool) (rsp : Word) (s : State) : (respond ok rsp s).ovf = s.ovf := rfl
@[simp] theorem respond_lastTime (ok : Bool) (rsp : Word) (s : State) : (respond ok rsp s).lastTime = s.lastTime := rfl
@[simp] theorem respond_tb (ok : Bool) (rsp : Word) (s : State) : (respond ok rsp s).tb = s.tb := rfl
@[simp] theorem respond_changeCnt (ok : Bool) (rsp : Word) (s : State) : (respond ok rsp s).changeCnt = s.changeCnt := rfl
@[simp] theorem respond_repeatCnt (ok : Bool) (rsp : Word) (s : State) : (respond ok rsp s).repeatCnt = s.repeatCnt := rfl
@[simp] theorem respond_resValid (ok : Bool) (rsp : Word) (s : State) : (respond ok rsp s).resValid = s.resValid := rfl
@[simp] theorem respond_resValue (ok : Bool) (rsp : Word) (s : State) : (respond ok rsp s).resValue = s.resValue := rfl
@[simp] theorem respond_resLen (ok : Bool) (rsp : Word) (s : State) : (respond ok rsp s).resLen = s.resLen := rfl
@[simp] theorem respond_resUnit (ok : Bool) (rsp : Word) (s : State) : (respond ok rsp s).resUnit = s.resUnit := rfl
@[simp] theorem respond_resProto (ok : Bool) (rsp : Word) (s : State) : (respond ok rsp s).resProto = s.resProto := rfl
@[simp] theorem respond_pt (ok : Bool) (rsp : Word) (s : State) : (respond ok rsp s).pt = s.pt := rfl
@[simp] theorem respond_inputs (ok : Bool) (rsp : Word) (s : State) : (respond ok rsp s).inputs = s.inputs := rfl
@[simp] theorem respond_resp (ok : Bool) (rsp : Word) (s : State) : (respond ok rsp s).resp = some ⟨ok, rsp⟩ := rfl

@[simp] theorem accept_txProto (s : State) : (accept s).txProto = s.txProto := rfl
@[simp] theorem accept_txRepeat (s : State) : (accept s).txRepeat = s.txRepeat := rfl
@[simp] theorem accept_outPin (s : State) : (accept s).outPin = s.outPin := rfl
@[simp] theorem accept_inPin (s : State) : (accept s).inPin = s.inPin := rfl
@[simp] theorem accept_rxTol (s : State) : (accept s).rxTol = s.rxTol := rfl
@[simp] theorem accept_out (s : State) : (accept s).out = s.out := rfl
@[simp] theorem accept_sym (s : State) : (accept s).sym = s.sym := rfl
@[simp] theorem accept_txBusy (s : State) : (accept s).txBusy = s.txBusy := rfl
@[simp] theorem accept_txSegs (s : State) : (accept s).txSegs = s.txSegs := rfl
@[simp] theorem accept_txRemain (s : State) : (accept s).txRemain = s.txRemain := rfl
@[simp] theorem accept_tcnt (s : State) : (accept s).tcnt = s.tcnt := rfl
@[simp] theorem accept_ovf (s : State) : (accept s).ovf = s.ovf := rfl
@[simp] theorem accept_lastTime (s : State) : (accept s).lastTime = s.lastTime := rfl
@[simp] theorem accept_tb (s : State) : (accept s).tb = s.tb := rfl
@[simp] theorem accept_changeCnt (s : State) : (accept s).changeCnt = s.changeCnt := rfl
@[simp] theorem accept_repeatCnt (s : State) : (accept s).repeatCnt = s.repeatCnt := rfl
@[simp] theorem accept_resValid (s : State) : (accept s).resValid = s.resValid := rfl
@[simp] theorem accept_resValue (s : State) : (accept s).resValue = s.resValue := rfl
@[simp] theorem accept_resLen (s : State) : (accept s).resLen = s.resLen := rfl
@[simp] theorem accept_resUnit (s : State) : (accept s).resUnit = s.resUnit := rfl
@[simp] theorem accept_resProto (s : State) : (accept s).resProto = s.resProto := rfl
@[simp] theorem accept_pt (s : State) : (accept s).pt = s.pt := rfl
@[simp] theorem accept_inputs (s : State) : (accept s).inputs = s.inputs := rfl
@[simp] theorem accept_resp (s : State) : (accept s).resp = some ⟨true, 0⟩ := rfl

@[simp] theorem refuse_txProto (s : State) : (refuse s).txProto = s.txProto := rfl
@[simp] theorem refuse_txRepeat (s : State) : (refuse s).txRepeat = s.txRepeat := rfl
@[simp] theorem refuse_outPin (s : State) : (refuse s).outPin = s.outPin := rfl
@[simp] theorem refuse_inPin (s : State) : (refuse s).inPin = s.inPin := rfl
@[simp] theorem refuse_rxTol (s : State) : (refuse s).rxTol = s.rxTol := rfl
@[simp] theorem refuse_out (s : State) : (refuse s).out = s.out := rfl
@[simp] theorem refuse_sym (s : State) : (refuse s).sym = s.sym := rfl
@[simp] theorem refuse_txBusy (s : State) : (refuse s).txBusy = s.txBusy := rfl
@[simp] theorem refuse_txSegs (s : State) : (refuse s).txSegs = s.txSegs := rfl
@[simp] theorem refuse_txRemain (s : State) : (refuse s).txRemain = s.txRemain := rfl
@[simp] theorem refuse_tcnt (s : State) : (refuse s).tcnt = s.tcnt := rfl
@[simp] theorem refuse_ovf (s : State) : (refuse s).ovf = s.ovf := rfl
@[simp] theorem refuse_lastTime (s : State) : (refuse s).lastTime = s.lastTime := rfl
@[simp] theorem refuse_tb (s : State) : (refuse s).tb = s.tb := rfl
@[simp] theorem refuse_changeCnt (s : State) : (refuse s).changeCnt = s.changeCnt := rfl
@[simp] theorem refuse_repeatCnt (s : State) : (refuse s).repeatCnt = s.repeatCnt := rfl
@[simp] theorem refuse_resValid (s : State) : (refuse s).resValid = s.resValid := rfl
@[simp] theorem refuse_resValue (s : State) : (refuse s).resValue = s.resValue := rfl
@[simp] theorem refuse_resLen (s : State) : (refuse s).resLen = s.resLen := rfl
@[simp] theorem refuse_resUnit (s : State) : (refuse s).resUnit = s.resUnit := rfl
@[simp] theorem refuse_resProto (s : State) : (refuse s).resProto = s.resProto := rfl
@[simp] theorem refuse_pt (s : State) : (refuse s).pt = s.pt := rfl
@[simp] theorem refuse_inputs (s : State) : (refuse s).inputs = s.inputs := rfl
@[simp] theorem refuse_resp (s : State) : (refuse s).resp = some ⟨false, 0⟩ := rfl

@[simp] theorem noResponse_txProto (s : State) : (noResponse s).txProto = s.txProto := rfl
@[simp] theorem noResponse_txRepeat (s : State) : (noResponse s).txRepeat = s.txRepeat := rfl
@[simp] theorem noResponse_outPin (s : State) : (noResponse s).outPin = s.outPin := rfl
@[simp] theorem noResponse_inPin (s : State) : (noResponse s).inPin = s.inPin := rfl
@[simp] theorem noResponse_rxTol (s : State) : (noResponse s).rxTol = s.rxTol := rfl
@[simp] theorem noResponse_out (s : State) : (noResponse s).out = s.out := rfl
@[simp] theorem noResponse_sym (s : State) : (noResponse s).sym = s.sym := rfl
@[simp] theorem noResponse_txBusy (s : State) : (noResponse s).txBusy = s.txBusy := rfl
@[simp] theorem noResponse_txSegs (s : State) : (noResponse s).txSegs = s.txSegs := rfl
@[simp] theorem noResponse_txRemain (s : State) : (noResponse s).txRemain = s.txRemain := rfl
@[simp] theorem noResponse_tcnt (s : State) : (noResponse s).tcnt = s.tcnt := rfl
@[simp] theorem noResponse_ovf (s : State) : (noResponse s).ovf = s.ovf := rfl
@[simp] theorem noResponse_lastTime (s : State) : (noResponse s).lastTime = s.lastTime := rfl
@[simp] theorem noResponse_tb (s : State) : (noResponse s).tb = s.tb := rfl
@[simp] theorem noResponse_changeCnt (s : State) : (noResponse s).changeCnt = s.changeCnt := rfl
@[simp] theorem noResponse_repeatCnt (s : State) : (noResponse s).repeatCnt = s.repeatCnt := rfl
@[simp] theorem noResponse_resValid (s : State) : (noResponse s).resValid = s.resValid := rfl
@[simp] theorem noResponse_resValue (s : State) : (noResponse s).resValue = s.resValue := rfl
@[simp] theorem noResponse_resLen (s : State) : (noResponse s).resLen = s.resLen := rfl
@[simp] theorem noResponse_resUnit (s : State) : (noResponse s).resUnit = s.resUnit := rfl
@[simp] theorem noResponse_resProto (s : State) : (noResponse s).resProto = s.resProto := rfl
@[simp] theorem noResponse_pt (s : State) : (noResponse s).pt = s.pt := rfl
@[simp] theorem noResponse_inputs (s : State) : (noResponse s).inputs = s.inputs := rfl
@[simp] theorem noResponse_resp (s : State) : (noResponse s).resp = none := rfl

@[simp] theorem publish_txProto (r : Decoded) (s : State) : (publish r s).txProto = s.txProto := rfl
@[simp] theorem publish_txRepeat (r : Decoded) (s : State) : (publish r s).txRepeat = s.txRepeat := rfl
@[simp] theorem publish_outPin (r : Decoded) (s : State) : (publish r s).outPin = s.outPin := rfl
@[simp] theorem publish_inPin (r : Decoded) (s : State) : (publish r s).inPin = s.inPin := rfl
@[simp] theorem publish_rxTol (r : Decoded) (s : State) : (publish r s).rxTol = s.rxTol := rfl
@[simp] theorem publish_out (r : Decoded) (s : State) : (publish r s).out = s.out := rfl
@[simp] theorem publish_sym (r : Decoded) (s : State) : (publish r s).sym = s.sym := rfl
@[simp] theorem publish_txBusy (r : Decoded) (s : State) : (publish r s).txBusy = s.txBusy := rfl
@[simp] theorem publish_txSegs (r : Decoded) (s : State) : (publish r s).txSegs = s.txSegs := rfl
@[simp] theorem publish_txRemain (r : Decoded) (s : State) : (publish r s).txRemain = s.txRemain := rfl
@[simp] theorem publish_tcnt (r : Decoded) (s : State) : (publish r s).tcnt = s.tcnt := rfl
@[simp] theorem publish_ovf (r : Decoded) (s : State) : (publish r s).ovf = s.ovf := rfl
@[simp] theorem publish_lastTime (r : Decoded) (s : State) : (publish r s).lastTime = s.lastTime := rfl
@[simp] theorem publish_tb (r : Decoded) (s : State) : (publish r s).tb = s.tb := rfl
@[simp] theorem publish_changeCnt (r : Decoded) (s : State) : (publish r s).changeCnt = s.changeCnt := rfl
@[simp] theorem publish_repeatCnt (r : Decoded) (s : State) : (publish r s).repeatCnt = s.repeatCnt := rfl
@[simp] theorem publish_resValid (r : Decoded) (s : State) : (publish r s).resValid = true := rfl
@[simp] theorem publish_resValue (r : Decoded) (s : State) : (publish r s).resValue = r.value := rfl
@[simp] theorem publish_resLen (r : Decoded) (s : State) : (publish r s).resLen = r.len := rfl
@[simp] theorem publish_resUnit (r : Decoded) (s : State) : (publish r s).resUnit = r.unit := rfl
@[simp] theorem publish_resProto (r : Decoded) (s : State) : (publish r s).resProto = r.proto := rfl
@[simp] theorem publish_pt (r : Decoded) (s : State) : (publish r s).pt = s.pt := rfl
@[simp] theorem publish_inputs (r : Decoded) (s : State) : (publish r s).inputs = s.inputs := rfl
@[simp] theorem publish_resp (r : Decoded) (s : State) : (publish r s).resp = s.resp := rfl

@[simp] theorem clearResult_txProto (s : State) : (clearResult s).txProto = s.txProto := rfl
@[simp] theorem clearResult_txRepeat (s : State) : (clearResult s).txRepeat = s.txRepeat := rfl
@[simp] theorem clearResult_outPin (s : State) : (clearResult s).outPin = s.outPin := rfl
@[simp] theorem clearResult_inPin (s : State) : (clearResult s).inPin = s.inPin := rfl
@[simp] theorem clearResult_rxTol (s : State) : (clearResult s).rxTol = s.rxTol := rfl
@[simp] theorem clearResult_out (s : State) : (clearResult s).out = s.out := rfl
@[simp] theorem clearResult_sym (s : State) : (clearResult s).sym = s.sym := rfl
@[simp] theorem clearResult_txBusy (s : State) : (clearResult s).txBusy = s.txBusy := rfl
@[simp] theorem clearResult_txSegs (s : State) : (clearResult s).txSegs = s.txSegs := rfl
@[simp] theorem clearResult_txRemain (s : State) : (clearResult s).txRemain = s.txRemain := rfl
@[simp] theorem clearResult_tcnt (s : State) : (clearResult s).tcnt = s.tcnt := rfl
@[simp] theorem clearResult_ovf (s : State) : (clearResult s).ovf = s.ovf := rfl
@[simp] theorem clearResult_lastTime (s : State) : (clearResult s).lastTime = s.lastTime := rfl
@[simp] theorem clearResult_tb (s : State) : (clearResult s).tb = s.tb := rfl
@[simp] theorem clearResult_changeCnt (s : State) : (clearResult s).changeCnt = s.changeCnt := rfl
@[simp] theorem clearResult_repeatCnt (s : State) : (clearResult s).repeatCnt = s.repeatCnt := rfl
@[simp] theorem clearResult_resValid (s : State) : (clearResult s).resValid = false := rfl
@[simp] theorem clearResult_resValue (s : State) : (clearResult s).resValue = 0 := rfl
@[simp] theorem clearResult_resLen (s : State) : (clearResult s).resLen = 0 := rfl
@[simp] theorem clearResult_resUnit (s : State) : (clearResult s).resUnit = 0 := rfl
@[simp] theorem clearResult_resProto (s : State) : (clearResult s).resProto = 0 := rfl
@[simp] theorem clearResult_pt (s : State) : (clearResult s).pt = s.pt := rfl
@[simp] theorem clearResult_inputs (s : State) : (clearResult s).inputs = s.inputs := rfl
@[simp] theorem clearResult_resp (s : State) : (clearResult s).resp = s.resp := rfl

@[simp] theorem countTime_txProto (s : State) : (countTime s).txProto = s.txProto := rfl
@[simp] theorem countTime_txRepeat (s : State) : (countTime s).txRepeat = s.txRepeat := rfl
@[simp] theorem countTime_outPin (s : State) : (countTime s).outPin = s.outPin := rfl
@[simp] theorem countTime_inPin (s : State) : (countTime s).inPin = s.inPin := rfl
@[simp] theorem countTime_rxTol (s : State) : (countTime s).rxTol = s.rxTol := rfl
@[simp] theorem countTime_out (s : State) : (countTime s).out = s.out := rfl
@[simp] theorem countTime_sym (s : State) : (countTime s).sym = s.sym := rfl
@[simp] theorem countTime_txBusy (s : State) : (countTime s).txBusy = s.txBusy := rfl
@[simp] theorem countTime_txSegs (s : State) : (countTime s).txSegs = s.txSegs := rfl
@[simp] theorem countTime_txRemain (s : State) : (countTime s).txRemain = s.txRemain := rfl
@[simp] theorem countTime_tcnt (s : State) : (countTime s).tcnt = s.tcnt + 1 := rfl
@[simp] theorem countTime_ovf (s : State) : (countTime s).ovf = if s.tcnt = 0xFFFF then s.ovf + 1 else s.ovf := rfl
@[simp] theorem countTime_lastTime (s : State) : (countTime s).lastTime = s.lastTime := rfl
@[simp] theorem countTime_tb (s : State) : (countTime s).tb = s.tb := rfl
@[simp] theorem countTime_changeCnt (s : State) : (countTime s).changeCnt = s.changeCnt := rfl
@[simp] theorem countTime_repeatCnt (s : State) : (countTime s).repeatCnt = s.repeatCnt := rfl
@[simp] theorem countTime_resValid (s : State) : (countTime s).resValid = s.resValid := rfl
@[simp] theorem countTime_resValue (s : State) : (countTime s).resValue = s.resValue := rfl
@[simp] theorem countTime_resLen (s : State) : (countTime s).resLen = s.resLen := rfl
@[simp] theorem countTime_resUnit (s : State) : (countTime s).resUnit = s.resUnit := rfl
@[simp] theorem countTime_resProto (s : State) : (countTime s).resProto = s.resProto := rfl
@[simp] theorem countTime_pt (s : State) : (countTime s).pt = s.pt := rfl
@[simp] theorem countTime_inputs (s : State) : (countTime s).inputs = s.inputs := rfl
@[simp] theorem countTime_resp (s : State) : (countTime s).resp = s.resp := rfl

@[simp] theorem writeSym_txProto (index : Nat) (character : Byte) (s : State) : (writeSym index character s).txProto = s.txProto := rfl
@[simp] theorem writeSym_txRepeat (index : Nat) (character : Byte) (s : State) : (writeSym index character s).txRepeat = s.txRepeat := rfl
@[simp] theorem writeSym_outPin (index : Nat) (character : Byte) (s : State) : (writeSym index character s).outPin = s.outPin := rfl
@[simp] theorem writeSym_inPin (index : Nat) (character : Byte) (s : State) : (writeSym index character s).inPin = s.inPin := rfl
@[simp] theorem writeSym_rxTol (index : Nat) (character : Byte) (s : State) : (writeSym index character s).rxTol = s.rxTol := rfl
@[simp] theorem writeSym_out (index : Nat) (character : Byte) (s : State) : (writeSym index character s).out = s.out := rfl
@[simp] theorem writeSym_sym (index : Nat) (character : Byte) (s : State) : (writeSym index character s).sym = s.sym.write index character := rfl
@[simp] theorem writeSym_txBusy (index : Nat) (character : Byte) (s : State) : (writeSym index character s).txBusy = s.txBusy := rfl
@[simp] theorem writeSym_txSegs (index : Nat) (character : Byte) (s : State) : (writeSym index character s).txSegs = s.txSegs := rfl
@[simp] theorem writeSym_txRemain (index : Nat) (character : Byte) (s : State) : (writeSym index character s).txRemain = s.txRemain := rfl
@[simp] theorem writeSym_tcnt (index : Nat) (character : Byte) (s : State) : (writeSym index character s).tcnt = s.tcnt := rfl
@[simp] theorem writeSym_ovf (index : Nat) (character : Byte) (s : State) : (writeSym index character s).ovf = s.ovf := rfl
@[simp] theorem writeSym_lastTime (index : Nat) (character : Byte) (s : State) : (writeSym index character s).lastTime = s.lastTime := rfl
@[simp] theorem writeSym_tb (index : Nat) (character : Byte) (s : State) : (writeSym index character s).tb = s.tb := rfl
@[simp] theorem writeSym_changeCnt (index : Nat) (character : Byte) (s : State) : (writeSym index character s).changeCnt = s.changeCnt := rfl
@[simp] theorem writeSym_repeatCnt (index : Nat) (character : Byte) (s : State) : (writeSym index character s).repeatCnt = s.repeatCnt := rfl
@[simp] theorem writeSym_resValid (index : Nat) (character : Byte) (s : State) : (writeSym index character s).resValid = s.resValid := rfl
@[simp] theorem writeSym_resValue (index : Nat) (character : Byte) (s : State) : (writeSym index character s).resValue = s.resValue := rfl
@[simp] theorem writeSym_resLen (index : Nat) (character : Byte) (s : State) : (writeSym index character s).resLen = s.resLen := rfl
@[simp] theorem writeSym_resUnit (index : Nat) (character : Byte) (s : State) : (writeSym index character s).resUnit = s.resUnit := rfl
@[simp] theorem writeSym_resProto (index : Nat) (character : Byte) (s : State) : (writeSym index character s).resProto = s.resProto := rfl
@[simp] theorem writeSym_pt (index : Nat) (character : Byte) (s : State) : (writeSym index character s).pt = s.pt := rfl
@[simp] theorem writeSym_inputs (index : Nat) (character : Byte) (s : State) : (writeSym index character s).inputs = s.inputs := rfl
@[simp] theorem writeSym_resp (index : Nat) (character : Byte) (s : State) : (writeSym index character s).resp = s.resp := rfl

@[simp] theorem recordEdge_txProto (d : Word) (s : State) : (recordEdge d s).txProto = s.txProto := rfl
@[simp] theorem recordEdge_txRepeat (d : Word) (s : State) : (recordEdge d s).txRepeat = s.txRepeat := rfl
@[simp] theorem recordEdge_outPin (d : Word) (s : State) : (recordEdge d s).outPin = s.outPin := rfl
@[simp] theorem recordEdge_inPin (d : Word) (s : State) : (recordEdge d s).inPin = s.inPin := rfl
@[simp] theorem recordEdge_rxTol (d : Word) (s : State) : (recordEdge d s).rxTol = s.rxTol := rfl
@[simp] theorem recordEdge_out (d : Word) (s : State) : (recordEdge d s).out = s.out := rfl
@[simp] theorem recordEdge_sym (d : Word) (s : State) : (recordEdge d s).sym = s.sym := rfl
@[simp] theorem recordEdge_txBusy (d : Word) (s : State) : (recordEdge d s).txBusy = s.txBusy := rfl
@[simp] theorem recordEdge_txSegs (d : Word) (s : State) : (recordEdge d s).txSegs = s.txSegs := rfl
@[simp] theorem recordEdge_txRemain (d : Word) (s : State) : (recordEdge d s).txRemain = s.txRemain := rfl
@[simp] theorem recordEdge_tcnt (d : Word) (s : State) : (recordEdge d s).tcnt = s.tcnt := rfl
@[simp] theorem recordEdge_ovf (d : Word) (s : State) : (recordEdge d s).ovf = s.ovf := rfl
@[simp] theorem recordEdge_lastTime (d : Word) (s : State) : (recordEdge d s).lastTime = time s := rfl
@[simp] theorem recordEdge_tb (d : Word) (s : State) : (recordEdge d s).tb = s.tb.write s.changeCnt.toNat d := rfl
@[simp] theorem recordEdge_changeCnt (d : Word) (s : State) : (recordEdge d s).changeCnt = s.changeCnt + 1 := rfl
@[simp] theorem recordEdge_repeatCnt (d : Word) (s : State) : (recordEdge d s).repeatCnt = s.repeatCnt := rfl
@[simp] theorem recordEdge_resValid (d : Word) (s : State) : (recordEdge d s).resValid = s.resValid := rfl
@[simp] theorem recordEdge_resValue (d : Word) (s : State) : (recordEdge d s).resValue = s.resValue := rfl
@[simp] theorem recordEdge_resLen (d : Word) (s : State) : (recordEdge d s).resLen = s.resLen := rfl
@[simp] theorem recordEdge_resUnit (d : Word) (s : State) : (recordEdge d s).resUnit = s.resUnit := rfl
@[simp] theorem recordEdge_resProto (d : Word) (s : State) : (recordEdge d s).resProto = s.resProto := rfl
@[simp] theorem recordEdge_pt (d : Word) (s : State) : (recordEdge d s).pt = s.pt := rfl
@[simp] theorem recordEdge_inputs (d : Word) (s : State) : (recordEdge d s).inputs = s.inputs := rfl
@[simp] theorem recordEdge_resp (d : Word) (s : State) : (recordEdge d s).resp = s.resp := rfl

end Sys2Proof.Machine
end

