-- ==== Sys2Proof/Laws/Ops.lean ====
section
/-! SUPPORT. What each shared operation can do, said once: the TX sequencer, the send, the time base, the
coordinator and the parts of EDGE; and what each leaves alone. -/

namespace Sys2Proof.Machine

/-! ### Time -/

/-- T after the counters have counted: one more, modulo 2^32. -/
theorem time_countTime (s : State) : time (countTime s) = time s + 1 := by
  unfold time countTime
  have hc := s.tcnt.isLt
  have ho := s.ovf.isLt
  have one16 : (1 : BitVec 16).toNat = 1 := rfl
  have one32 : (1 : BitVec 32).toNat = 1 := rfl
  apply BitVec.eq_of_toNat_eq
  split
  · rename_i h
    have h' : s.tcnt.toNat = 65535 := by simp [h]
    simp only [BitVec.toNat_append, BitVec.toNat_add, one16, one32, h']
    rw [← Nat.shiftLeft_add_eq_or_of_lt (by decide), ← Nat.shiftLeft_add_eq_or_of_lt (by decide)]
    simp only [Nat.shiftLeft_eq]
    omega
  · rename_i h
    have h' : s.tcnt.toNat ≠ 65535 := fun e => h (BitVec.eq_of_toNat_eq (by simpa using e))
    simp only [BitVec.toNat_append, BitVec.toNat_add, one16, one32]
    rw [← Nat.shiftLeft_add_eq_or_of_lt (by omega), ← Nat.shiftLeft_add_eq_or_of_lt (by omega)]
    simp only [Nat.shiftLeft_eq]
    omega

/-! ### The TX sequencer -/

/-- A multiplier times a unit, exactly (R121). -/
theorem dur_toNat (P : Protocol) (m : Byte) : (dur P m).toNat = P.unit.toNat * m.toNat := by
  have h1 := P.unit.isLt
  have h2 := m.isLt
  have h3 : P.unit.toNat * m.toNat ≤ 65535 * 255 := Nat.mul_le_mul (by omega) (by omega)
  simp only [dur, BitVec.toNat_ofNat]
  omega

/-- A duration is at most the largest multiplier times the largest unit (R29, R121). -/
theorem dur_le (P : Protocol) (m : Byte) : (dur P m).toNat ≤ 16711425 := by
  have h1 := P.unit.isLt
  have h2 := m.isLt
  rw [dur_toNat]
  exact Nat.mul_le_mul (by omega : P.unit.toNat ≤ 65535) (by omega : m.toNat ≤ 255)

/-- What starting segments does: it runs past zero-length segments to the first other one, or to the end. -/
theorem startSegs_cases (out : Bool) (segs : List Segment) :
    (totalDur segs = 0 ∧ startSegs out segs = (lastLevel out segs, 0, [])) ∨
    (∃ pre g rest, segs = pre ++ g :: rest ∧ totalDur pre = 0 ∧ g.dur ≠ 0 ∧
      startSegs out segs = (g.level, g.dur, rest)) := by
  induction segs generalizing out with
  | nil => exact .inl ⟨rfl, rfl⟩
  | cons g rest ih =>
    by_cases hg : g.dur = 0
    · rcases ih g.level with ⟨h0, h1⟩ | ⟨pre, g', rest', h0, h1, h2, h3⟩
      · exact .inl ⟨by simp [totalDur, hg, h0], by simp [startSegs, hg, h1, lastLevel]⟩
      · exact .inr ⟨g :: pre, g', rest', by simp [h0], by simp [totalDur, hg, h1], h2, by simp [startSegs, hg, h3]⟩
    · exact .inr ⟨[], g, rest, rfl, rfl, hg, by rw [startSegs, if_neg hg]⟩

/-! TxAdvance, TxStart and the sequencer's part of TICK write the sequencer and nothing else (R134). -/

@[simp] theorem txAdvance_txProto (s : State) : (txAdvance s).txProto = s.txProto := by unfold txAdvance; split <;> rfl
@[simp] theorem txAdvance_txRepeat (s : State) : (txAdvance s).txRepeat = s.txRepeat := by unfold txAdvance; split <;> rfl
@[simp] theorem txAdvance_outPin (s : State) : (txAdvance s).outPin = s.outPin := by unfold txAdvance; split <;> rfl
@[simp] theorem txAdvance_inPin (s : State) : (txAdvance s).inPin = s.inPin := by unfold txAdvance; split <;> rfl
@[simp] theorem txAdvance_rxTol (s : State) : (txAdvance s).rxTol = s.rxTol := by unfold txAdvance; split <;> rfl
@[simp] theorem txAdvance_sym (s : State) : (txAdvance s).sym = s.sym := by unfold txAdvance; split <;> rfl
@[simp] theorem txAdvance_tcnt (s : State) : (txAdvance s).tcnt = s.tcnt := by unfold txAdvance; split <;> rfl
@[simp] theorem txAdvance_ovf (s : State) : (txAdvance s).ovf = s.ovf := by unfold txAdvance; split <;> rfl
@[simp] theorem txAdvance_lastTime (s : State) : (txAdvance s).lastTime = s.lastTime := by unfold txAdvance; split <;> rfl
@[simp] theorem txAdvance_tb (s : State) : (txAdvance s).tb = s.tb := by unfold txAdvance; split <;> rfl
@[simp] theorem txAdvance_changeCnt (s : State) : (txAdvance s).changeCnt = s.changeCnt := by unfold txAdvance; split <;> rfl
@[simp] theorem txAdvance_repeatCnt (s : State) : (txAdvance s).repeatCnt = s.repeatCnt := by unfold txAdvance; split <;> rfl
@[simp] theorem txAdvance_resValid (s : State) : (txAdvance s).resValid = s.resValid := by unfold txAdvance; split <;> rfl
@[simp] theorem txAdvance_resValue (s : State) : (txAdvance s).resValue = s.resValue := by unfold txAdvance; split <;> rfl
@[simp] theorem txAdvance_resLen (s : State) : (txAdvance s).resLen = s.resLen := by unfold txAdvance; split <;> rfl
@[simp] theorem txAdvance_resUnit (s : State) : (txAdvance s).resUnit = s.resUnit := by unfold txAdvance; split <;> rfl
@[simp] theorem txAdvance_resProto (s : State) : (txAdvance s).resProto = s.resProto := by unfold txAdvance; split <;> rfl
@[simp] theorem txAdvance_pt (s : State) : (txAdvance s).pt = s.pt := by unfold txAdvance; split <;> rfl
@[simp] theorem txAdvance_inputs (s : State) : (txAdvance s).inputs = s.inputs := by unfold txAdvance; split <;> rfl
@[simp] theorem txAdvance_resp (s : State) : (txAdvance s).resp = s.resp := by unfold txAdvance; split <;> rfl

@[simp] theorem txStart_txProto (segs : List Segment) (s : State) : (txStart segs s).txProto = s.txProto := by simp [txStart]
@[simp] theorem txStart_txRepeat (segs : List Segment) (s : State) : (txStart segs s).txRepeat = s.txRepeat := by simp [txStart]
@[simp] theorem txStart_outPin (segs : List Segment) (s : State) : (txStart segs s).outPin = s.outPin := by simp [txStart]
@[simp] theorem txStart_inPin (segs : List Segment) (s : State) : (txStart segs s).inPin = s.inPin := by simp [txStart]
@[simp] theorem txStart_rxTol (segs : List Segment) (s : State) : (txStart segs s).rxTol = s.rxTol := by simp [txStart]
@[simp] theorem txStart_sym (segs : List Segment) (s : State) : (txStart segs s).sym = s.sym := by simp [txStart]
@[simp] theorem txStart_tcnt (segs : List Segment) (s : State) : (txStart segs s).tcnt = s.tcnt := by simp [txStart]
@[simp] theorem txStart_ovf (segs : List Segment) (s : State) : (txStart segs s).ovf = s.ovf := by simp [txStart]
@[simp] theorem txStart_lastTime (segs : List Segment) (s : State) : (txStart segs s).lastTime = s.lastTime := by simp [txStart]
@[simp] theorem txStart_tb (segs : List Segment) (s : State) : (txStart segs s).tb = s.tb := by simp [txStart]
@[simp] theorem txStart_changeCnt (segs : List Segment) (s : State) : (txStart segs s).changeCnt = s.changeCnt := by simp [txStart]
@[simp] theorem txStart_repeatCnt (segs : List Segment) (s : State) : (txStart segs s).repeatCnt = s.repeatCnt := by simp [txStart]
@[simp] theorem txStart_resValid (segs : List Segment) (s : State) : (txStart segs s).resValid = s.resValid := by simp [txStart]
@[simp] theorem txStart_resValue (segs : List Segment) (s : State) : (txStart segs s).resValue = s.resValue := by simp [txStart]
@[simp] theorem txStart_resLen (segs : List Segment) (s : State) : (txStart segs s).resLen = s.resLen := by simp [txStart]
@[simp] theorem txStart_resUnit (segs : List Segment) (s : State) : (txStart segs s).resUnit = s.resUnit := by simp [txStart]
@[simp] theorem txStart_resProto (segs : List Segment) (s : State) : (txStart segs s).resProto = s.resProto := by simp [txStart]
@[simp] theorem txStart_pt (segs : List Segment) (s : State) : (txStart segs s).pt = s.pt := by simp [txStart]
@[simp] theorem txStart_inputs (segs : List Segment) (s : State) : (txStart segs s).inputs = s.inputs := by simp [txStart]
@[simp] theorem txStart_resp (segs : List Segment) (s : State) : (txStart segs s).resp = s.resp := by simp [txStart]

@[simp] theorem txCount_txProto (s : State) : (txCount s).txProto = s.txProto := by unfold txCount; split <;> simp
@[simp] theorem txCount_txRepeat (s : State) : (txCount s).txRepeat = s.txRepeat := by unfold txCount; split <;> simp
@[simp] theorem txCount_outPin (s : State) : (txCount s).outPin = s.outPin := by unfold txCount; split <;> simp
@[simp] theorem txCount_inPin (s : State) : (txCount s).inPin = s.inPin := by unfold txCount; split <;> simp
@[simp] theorem txCount_rxTol (s : State) : (txCount s).rxTol = s.rxTol := by unfold txCount; split <;> simp
@[simp] theorem txCount_sym (s : State) : (txCount s).sym = s.sym := by unfold txCount; split <;> simp
@[simp] theorem txCount_tcnt (s : State) : (txCount s).tcnt = s.tcnt := by unfold txCount; split <;> simp
@[simp] theorem txCount_ovf (s : State) : (txCount s).ovf = s.ovf := by unfold txCount; split <;> simp
@[simp] theorem txCount_lastTime (s : State) : (txCount s).lastTime = s.lastTime := by unfold txCount; split <;> simp
@[simp] theorem txCount_tb (s : State) : (txCount s).tb = s.tb := by unfold txCount; split <;> simp
@[simp] theorem txCount_changeCnt (s : State) : (txCount s).changeCnt = s.changeCnt := by unfold txCount; split <;> simp
@[simp] theorem txCount_repeatCnt (s : State) : (txCount s).repeatCnt = s.repeatCnt := by unfold txCount; split <;> simp
@[simp] theorem txCount_resValid (s : State) : (txCount s).resValid = s.resValid := by unfold txCount; split <;> simp
@[simp] theorem txCount_resValue (s : State) : (txCount s).resValue = s.resValue := by unfold txCount; split <;> simp
@[simp] theorem txCount_resLen (s : State) : (txCount s).resLen = s.resLen := by unfold txCount; split <;> simp
@[simp] theorem txCount_resUnit (s : State) : (txCount s).resUnit = s.resUnit := by unfold txCount; split <;> simp
@[simp] theorem txCount_resProto (s : State) : (txCount s).resProto = s.resProto := by unfold txCount; split <;> simp
@[simp] theorem txCount_pt (s : State) : (txCount s).pt = s.pt := by unfold txCount; split <;> simp
@[simp] theorem txCount_inputs (s : State) : (txCount s).inputs = s.inputs := by unfold txCount; split <;> simp
@[simp] theorem txCount_resp (s : State) : (txCount s).resp = s.resp := by unfold txCount; split <;> simp

@[simp] theorem tick_txProto (s : State) : (tick s).txProto = s.txProto := by simp [tick]
@[simp] theorem tick_txRepeat (s : State) : (tick s).txRepeat = s.txRepeat := by simp [tick]
@[simp] theorem tick_outPin (s : State) : (tick s).outPin = s.outPin := by simp [tick]
@[simp] theorem tick_inPin (s : State) : (tick s).inPin = s.inPin := by simp [tick]
@[simp] theorem tick_rxTol (s : State) : (tick s).rxTol = s.rxTol := by simp [tick]
@[simp] theorem tick_sym (s : State) : (tick s).sym = s.sym := by simp [tick]
@[simp] theorem tick_lastTime (s : State) : (tick s).lastTime = s.lastTime := by simp [tick]
@[simp] theorem tick_tb (s : State) : (tick s).tb = s.tb := by simp [tick]
@[simp] theorem tick_changeCnt (s : State) : (tick s).changeCnt = s.changeCnt := by simp [tick]
@[simp] theorem tick_repeatCnt (s : State) : (tick s).repeatCnt = s.repeatCnt := by simp [tick]
@[simp] theorem tick_resValid (s : State) : (tick s).resValid = s.resValid := by simp [tick]
@[simp] theorem tick_resValue (s : State) : (tick s).resValue = s.resValue := by simp [tick]
@[simp] theorem tick_resLen (s : State) : (tick s).resLen = s.resLen := by simp [tick]
@[simp] theorem tick_resUnit (s : State) : (tick s).resUnit = s.resUnit := by simp [tick]
@[simp] theorem tick_resProto (s : State) : (tick s).resProto = s.resProto := by simp [tick]
@[simp] theorem tick_pt (s : State) : (tick s).pt = s.pt := by simp [tick]
@[simp] theorem tick_inputs (s : State) : (tick s).inputs = s.inputs := by simp [tick]
@[simp] theorem tick_resp (s : State) : (tick s).resp = s.resp := by simp [tick]

@[simp] theorem tick_tcnt (s : State) : (tick s).tcnt = s.tcnt + 1 := by simp [tick]

@[simp] theorem tick_ovf (s : State) : (tick s).ovf = if s.tcnt = 0xFFFF then s.ovf + 1 else s.ovf := by
  unfold tick
  rw [txCount_ovf]
  rfl

@[simp] theorem time_txStart (segs : List Segment) (s : State) : time (txStart segs s) = time s := by simp [time]

/-- T after TICK (R31, R136). -/
@[simp] theorem time_tick (s : State) : time (tick s) = time s + 1 := by
  rw [← time_countTime]
  simp only [time, tick_tcnt, tick_ovf, countTime]

/-- What a transmit command does once its operands stand: nothing but the response, or TxStart (R131, R154). -/
theorem transmit_cases (segs : List Segment) (s : State) :
    (s.outPin = 0xFF ∧ transmit segs s = accept s) ∨
    (s.outPin ≠ 0xFF ∧ transmit segs s = accept (txStart segs s)) := by
  by_cases h : s.outPin = 0xFF
  · exact .inl ⟨h, if_pos h⟩
  · exact .inr ⟨h, if_neg h⟩

@[simp] theorem transmit_resp (segs : List Segment) (s : State) : (transmit segs s).resp = some ⟨true, 0⟩ := by
  unfold transmit
  split <;> rfl

@[simp] theorem transmit_txProto (segs : List Segment) (s : State) : (transmit segs s).txProto = s.txProto := by unfold transmit; split <;> simp
@[simp] theorem transmit_txRepeat (segs : List Segment) (s : State) : (transmit segs s).txRepeat = s.txRepeat := by unfold transmit; split <;> simp
@[simp] theorem transmit_outPin (segs : List Segment) (s : State) : (transmit segs s).outPin = s.outPin := by unfold transmit; split <;> simp
@[simp] theorem transmit_inPin (segs : List Segment) (s : State) : (transmit segs s).inPin = s.inPin := by unfold transmit; split <;> simp
@[simp] theorem transmit_rxTol (segs : List Segment) (s : State) : (transmit segs s).rxTol = s.rxTol := by unfold transmit; split <;> simp
@[simp] theorem transmit_sym (segs : List Segment) (s : State) : (transmit segs s).sym = s.sym := by unfold transmit; split <;> simp
@[simp] theorem transmit_tcnt (segs : List Segment) (s : State) : (transmit segs s).tcnt = s.tcnt := by unfold transmit; split <;> simp
@[simp] theorem transmit_ovf (segs : List Segment) (s : State) : (transmit segs s).ovf = s.ovf := by unfold transmit; split <;> simp
@[simp] theorem transmit_lastTime (segs : List Segment) (s : State) : (transmit segs s).lastTime = s.lastTime := by unfold transmit; split <;> simp
@[simp] theorem transmit_tb (segs : List Segment) (s : State) : (transmit segs s).tb = s.tb := by unfold transmit; split <;> simp
@[simp] theorem transmit_changeCnt (segs : List Segment) (s : State) : (transmit segs s).changeCnt = s.changeCnt := by unfold transmit; split <;> simp
@[simp] theorem transmit_repeatCnt (segs : List Segment) (s : State) : (transmit segs s).repeatCnt = s.repeatCnt := by unfold transmit; split <;> simp
@[simp] theorem transmit_resValid (segs : List Segment) (s : State) : (transmit segs s).resValid = s.resValid := by unfold transmit; split <;> simp
@[simp] theorem transmit_resValue (segs : List Segment) (s : State) : (transmit segs s).resValue = s.resValue := by unfold transmit; split <;> simp
@[simp] theorem transmit_resLen (segs : List Segment) (s : State) : (transmit segs s).resLen = s.resLen := by unfold transmit; split <;> simp
@[simp] theorem transmit_resUnit (segs : List Segment) (s : State) : (transmit segs s).resUnit = s.resUnit := by unfold transmit; split <;> simp
@[simp] theorem transmit_resProto (segs : List Segment) (s : State) : (transmit segs s).resProto = s.resProto := by unfold transmit; split <;> simp
@[simp] theorem transmit_pt (segs : List Segment) (s : State) : (transmit segs s).pt = s.pt := by unfold transmit; split <;> simp
@[simp] theorem transmit_inputs (segs : List Segment) (s : State) : (transmit segs s).inputs = s.inputs := by unfold transmit; split <;> simp

/-! ### The coordinator -/

/-- What TRYDECODE can answer: the loop ran through, the guard held, and the rest is fixed (R201, R209). -/
theorem tryDecode_some {p E : Nat} {s : State} {r : Decoded} (h : tryDecode p E s = some r) :
    7 < E ∧ r.len = BitVec.ofNat 8 ((E - 1) / 2) ∧ r.proto = BitVec.ofNat 3 p ∧
    r.unit = BitVec.ofNat 32 (unitEstimate (protocolAt s.pt p) s.tb) ∧
    matchLoop (protocolAt s.pt p) (unitEstimate (protocolAt s.pt p) s.tb)
      (tolerance (unitEstimate (protocolAt s.pt p) s.tb) s.rxTol) s.tb E E (startSlot (protocolAt s.pt p)) 0 =
        some r.value := by
  simp only [tryDecode] at h
  split at h
  · cases h
  · rename_i code hc
    split at h
    · rename_i hE
      cases h
      exact ⟨hE, rfl, rfl, rfl, hc⟩
    · cases h

/-- The first success of a list of indices: a member of the list, with every member before it failing. -/
theorem firstDecode_some {E : Nat} {s : State} {l : List Nat} {r : Decoded} (h : firstDecode E s l = some r) :
    ∃ pre p post, l = pre ++ p :: post ∧ tryDecode p E s = some r ∧ ∀ q ∈ pre, tryDecode q E s = none := by
  induction l with
  | nil => cases h
  | cons p rest ih =>
    unfold firstDecode at h
    split at h
    · rename_i r' hr
      cases h
      exact ⟨[], p, rest, rfl, hr, by simp⟩
    · rename_i hr
      obtain ⟨pre, q, post, h1, h2, h3⟩ := ih h
      refine ⟨p :: pre, q, post, by simp [h1], h2, ?_⟩
      intro x hx
      rcases List.mem_cons.1 hx with rfl | hx
      · exact hr
      · exact h3 x hx

/-- What COORD can do: nothing, or publish one successful TRYDECODE of an index from 1 to 6 (R220). -/
theorem coord_cases (E : Nat) (s : State) :
    coord E s = s ∨ ∃ p r, 1 ≤ p ∧ p ≤ 6 ∧ tryDecode p E s = some r ∧ coord E s = publish r s := by
  unfold coord
  split
  · rename_i r hr
    obtain ⟨pre, p, post, h1, h2, -⟩ := firstDecode_some hr
    have hp : p ∈ coordIndices := by rw [h1]; simp
    refine .inr ⟨p, r, ?_, ?_, h2, rfl⟩ <;> simp [coordIndices] at hp <;> omega
  · exact .inl rfl

@[simp] theorem coord_txProto (E : Nat) (s : State) : (coord E s).txProto = s.txProto := by unfold coord; split <;> rfl
@[simp] theorem coord_txRepeat (E : Nat) (s : State) : (coord E s).txRepeat = s.txRepeat := by unfold coord; split <;> rfl
@[simp] theorem coord_outPin (E : Nat) (s : State) : (coord E s).outPin = s.outPin := by unfold coord; split <;> rfl
@[simp] theorem coord_inPin (E : Nat) (s : State) : (coord E s).inPin = s.inPin := by unfold coord; split <;> rfl
@[simp] theorem coord_rxTol (E : Nat) (s : State) : (coord E s).rxTol = s.rxTol := by unfold coord; split <;> rfl
@[simp] theorem coord_out (E : Nat) (s : State) : (coord E s).out = s.out := by unfold coord; split <;> rfl
@[simp] theorem coord_sym (E : Nat) (s : State) : (coord E s).sym = s.sym := by unfold coord; split <;> rfl
@[simp] theorem coord_txBusy (E : Nat) (s : State) : (coord E s).txBusy = s.txBusy := by unfold coord; split <;> rfl
@[simp] theorem coord_txSegs (E : Nat) (s : State) : (coord E s).txSegs = s.txSegs := by unfold coord; split <;> rfl
@[simp] theorem coord_txRemain (E : Nat) (s : State) : (coord E s).txRemain = s.txRemain := by unfold coord; split <;> rfl
@[simp] theorem coord_tcnt (E : Nat) (s : State) : (coord E s).tcnt = s.tcnt := by unfold coord; split <;> rfl
@[simp] theorem coord_ovf (E : Nat) (s : State) : (coord E s).ovf = s.ovf := by unfold coord; split <;> rfl
@[simp] theorem coord_lastTime (E : Nat) (s : State) : (coord E s).lastTime = s.lastTime := by unfold coord; split <;> rfl
@[simp] theorem coord_tb (E : Nat) (s : State) : (coord E s).tb = s.tb := by unfold coord; split <;> rfl
@[simp] theorem coord_changeCnt (E : Nat) (s : State) : (coord E s).changeCnt = s.changeCnt := by unfold coord; split <;> rfl
@[simp] theorem coord_repeatCnt (E : Nat) (s : State) : (coord E s).repeatCnt = s.repeatCnt := by unfold coord; split <;> rfl
@[simp] theorem coord_pt (E : Nat) (s : State) : (coord E s).pt = s.pt := by unfold coord; split <;> rfl
@[simp] theorem coord_inputs (E : Nat) (s : State) : (coord E s).inputs = s.inputs := by unfold coord; split <;> rfl
@[simp] theorem coord_resp (E : Nat) (s : State) : (coord E s).resp = s.resp := by unfold coord; split <;> rfl

/-! ### The parts of EDGE -/

@[simp] theorem countGap_txProto (s : State) : (countGap s).txProto = s.txProto := by unfold countGap; split <;> simp
@[simp] theorem countGap_txRepeat (s : State) : (countGap s).txRepeat = s.txRepeat := by unfold countGap; split <;> simp
@[simp] theorem countGap_outPin (s : State) : (countGap s).outPin = s.outPin := by unfold countGap; split <;> simp
@[simp] theorem countGap_inPin (s : State) : (countGap s).inPin = s.inPin := by unfold countGap; split <;> simp
@[simp] theorem countGap_rxTol (s : State) : (countGap s).rxTol = s.rxTol := by unfold countGap; split <;> simp
@[simp] theorem countGap_out (s : State) : (countGap s).out = s.out := by unfold countGap; split <;> simp
@[simp] theorem countGap_sym (s : State) : (countGap s).sym = s.sym := by unfold countGap; split <;> simp
@[simp] theorem countGap_txBusy (s : State) : (countGap s).txBusy = s.txBusy := by unfold countGap; split <;> simp
@[simp] theorem countGap_txSegs (s : State) : (countGap s).txSegs = s.txSegs := by unfold countGap; split <;> simp
@[simp] theorem countGap_txRemain (s : State) : (countGap s).txRemain = s.txRemain := by unfold countGap; split <;> simp
@[simp] theorem countGap_tcnt (s : State) : (countGap s).tcnt = s.tcnt := by unfold countGap; split <;> simp
@[simp] theorem countGap_ovf (s : State) : (countGap s).ovf = s.ovf := by unfold countGap; split <;> simp
@[simp] theorem countGap_lastTime (s : State) : (countGap s).lastTime = s.lastTime := by unfold countGap; split <;> simp
@[simp] theorem countGap_tb (s : State) : (countGap s).tb = s.tb := by unfold countGap; split <;> simp
@[simp] theorem countGap_changeCnt (s : State) : (countGap s).changeCnt = s.changeCnt := by unfold countGap; split <;> simp
@[simp] theorem countGap_pt (s : State) : (countGap s).pt = s.pt := by unfold countGap; split <;> simp
@[simp] theorem countGap_inputs (s : State) : (countGap s).inputs = s.inputs := by unfold countGap; split <;> simp
@[simp] theorem countGap_resp (s : State) : (countGap s).resp = s.resp := by unfold countGap; split <;> simp

@[simp] theorem gapLogic_txProto (d : Word) (s : State) : (gapLogic d s).txProto = s.txProto := by unfold gapLogic; (repeat' split) <;> simp
@[simp] theorem gapLogic_txRepeat (d : Word) (s : State) : (gapLogic d s).txRepeat = s.txRepeat := by unfold gapLogic; (repeat' split) <;> simp
@[simp] theorem gapLogic_outPin (d : Word) (s : State) : (gapLogic d s).outPin = s.outPin := by unfold gapLogic; (repeat' split) <;> simp
@[simp] theorem gapLogic_inPin (d : Word) (s : State) : (gapLogic d s).inPin = s.inPin := by unfold gapLogic; (repeat' split) <;> simp
@[simp] theorem gapLogic_rxTol (d : Word) (s : State) : (gapLogic d s).rxTol = s.rxTol := by unfold gapLogic; (repeat' split) <;> simp
@[simp] theorem gapLogic_out (d : Word) (s : State) : (gapLogic d s).out = s.out := by unfold gapLogic; (repeat' split) <;> simp
@[simp] theorem gapLogic_sym (d : Word) (s : State) : (gapLogic d s).sym = s.sym := by unfold gapLogic; (repeat' split) <;> simp
@[simp] theorem gapLogic_txBusy (d : Word) (s : State) : (gapLogic d s).txBusy = s.txBusy := by unfold gapLogic; (repeat' split) <;> simp
@[simp] theorem gapLogic_txSegs (d : Word) (s : State) : (gapLogic d s).txSegs = s.txSegs := by unfold gapLogic; (repeat' split) <;> simp
@[simp] theorem gapLogic_txRemain (d : Word) (s : State) : (gapLogic d s).txRemain = s.txRemain := by unfold gapLogic; (repeat' split) <;> simp
@[simp] theorem gapLogic_tcnt (d : Word) (s : State) : (gapLogic d s).tcnt = s.tcnt := by unfold gapLogic; (repeat' split) <;> simp
@[simp] theorem gapLogic_ovf (d : Word) (s : State) : (gapLogic d s).ovf = s.ovf := by unfold gapLogic; (repeat' split) <;> simp
@[simp] theorem gapLogic_lastTime (d : Word) (s : State) : (gapLogic d s).lastTime = s.lastTime := by unfold gapLogic; (repeat' split) <;> simp
@[simp] theorem gapLogic_tb (d : Word) (s : State) : (gapLogic d s).tb = s.tb := by unfold gapLogic; (repeat' split) <;> simp
@[simp] theorem gapLogic_pt (d : Word) (s : State) : (gapLogic d s).pt = s.pt := by unfold gapLogic; (repeat' split) <;> simp
@[simp] theorem gapLogic_inputs (d : Word) (s : State) : (gapLogic d s).inputs = s.inputs := by unfold gapLogic; (repeat' split) <;> simp
@[simp] theorem gapLogic_resp (d : Word) (s : State) : (gapLogic d s).resp = s.resp := by unfold gapLogic; (repeat' split) <;> simp

@[simp] theorem fullCheck_txProto (s : State) : (fullCheck s).txProto = s.txProto := by unfold fullCheck; split <;> rfl
@[simp] theorem fullCheck_txRepeat (s : State) : (fullCheck s).txRepeat = s.txRepeat := by unfold fullCheck; split <;> rfl
@[simp] theorem fullCheck_outPin (s : State) : (fullCheck s).outPin = s.outPin := by unfold fullCheck; split <;> rfl
@[simp] theorem fullCheck_inPin (s : State) : (fullCheck s).inPin = s.inPin := by unfold fullCheck; split <;> rfl
@[simp] theorem fullCheck_rxTol (s : State) : (fullCheck s).rxTol = s.rxTol := by unfold fullCheck; split <;> rfl
@[simp] theorem fullCheck_out (s : State) : (fullCheck s).out = s.out := by unfold fullCheck; split <;> rfl
@[simp] theorem fullCheck_sym (s : State) : (fullCheck s).sym = s.sym := by unfold fullCheck; split <;> rfl
@[simp] theorem fullCheck_txBusy (s : State) : (fullCheck s).txBusy = s.txBusy := by unfold fullCheck; split <;> rfl
@[simp] theorem fullCheck_txSegs (s : State) : (fullCheck s).txSegs = s.txSegs := by unfold fullCheck; split <;> rfl
@[simp] theorem fullCheck_txRemain (s : State) : (fullCheck s).txRemain = s.txRemain := by unfold fullCheck; split <;> rfl
@[simp] theorem fullCheck_tcnt (s : State) : (fullCheck s).tcnt = s.tcnt := by unfold fullCheck; split <;> rfl
@[simp] theorem fullCheck_ovf (s : State) : (fullCheck s).ovf = s.ovf := by unfold fullCheck; split <;> rfl
@[simp] theorem fullCheck_lastTime (s : State) : (fullCheck s).lastTime = s.lastTime := by unfold fullCheck; split <;> rfl
@[simp] theorem fullCheck_tb (s : State) : (fullCheck s).tb = s.tb := by unfold fullCheck; split <;> rfl
@[simp] theorem fullCheck_resValid (s : State) : (fullCheck s).resValid = s.resValid := by unfold fullCheck; split <;> rfl
@[simp] theorem fullCheck_resValue (s : State) : (fullCheck s).resValue = s.resValue := by unfold fullCheck; split <;> rfl
@[simp] theorem fullCheck_resLen (s : State) : (fullCheck s).resLen = s.resLen := by unfold fullCheck; split <;> rfl
@[simp] theorem fullCheck_resUnit (s : State) : (fullCheck s).resUnit = s.resUnit := by unfold fullCheck; split <;> rfl
@[simp] theorem fullCheck_resProto (s : State) : (fullCheck s).resProto = s.resProto := by unfold fullCheck; split <;> rfl
@[simp] theorem fullCheck_pt (s : State) : (fullCheck s).pt = s.pt := by unfold fullCheck; split <;> rfl
@[simp] theorem fullCheck_inputs (s : State) : (fullCheck s).inputs = s.inputs := by unfold fullCheck; split <;> rfl
@[simp] theorem fullCheck_resp (s : State) : (fullCheck s).resp = s.resp := by unfold fullCheck; split <;> rfl

@[simp] theorem edge_txProto (s : State) : (edge s).txProto = s.txProto := by unfold edge; split <;> simp
@[simp] theorem edge_txRepeat (s : State) : (edge s).txRepeat = s.txRepeat := by unfold edge; split <;> simp
@[simp] theorem edge_outPin (s : State) : (edge s).outPin = s.outPin := by unfold edge; split <;> simp
@[simp] theorem edge_inPin (s : State) : (edge s).inPin = s.inPin := by unfold edge; split <;> simp
@[simp] theorem edge_rxTol (s : State) : (edge s).rxTol = s.rxTol := by unfold edge; split <;> simp
@[simp] theorem edge_out (s : State) : (edge s).out = s.out := by unfold edge; split <;> simp
@[simp] theorem edge_sym (s : State) : (edge s).sym = s.sym := by unfold edge; split <;> simp
@[simp] theorem edge_txBusy (s : State) : (edge s).txBusy = s.txBusy := by unfold edge; split <;> simp
@[simp] theorem edge_txSegs (s : State) : (edge s).txSegs = s.txSegs := by unfold edge; split <;> simp
@[simp] theorem edge_txRemain (s : State) : (edge s).txRemain = s.txRemain := by unfold edge; split <;> simp
@[simp] theorem edge_tcnt (s : State) : (edge s).tcnt = s.tcnt := by unfold edge; split <;> simp
@[simp] theorem edge_ovf (s : State) : (edge s).ovf = s.ovf := by unfold edge; split <;> simp
@[simp] theorem edge_pt (s : State) : (edge s).pt = s.pt := by unfold edge; split <;> simp
@[simp] theorem edge_inputs (s : State) : (edge s).inputs = s.inputs := by unfold edge; split <;> simp
@[simp] theorem edge_resp (s : State) : (edge s).resp = s.resp := by unfold edge; split <;> simp

/-- After the full check there is a slot to write (R186). -/
theorem fullCheck_changeCnt_lt (s : State) : (fullCheck s).changeCnt.toNat < 67 := by
  unfold fullCheck
  split
  · exact (by decide : (0 : BitVec 7).toNat < 67)
  · rename_i h
    simpa using h

/-! ### Commands -/

/-- Every command answers a next state: the block has no trap (R251). -/
theorem exec_next (i : Instr) (s : State) : ∃ t, exec i s = .next t := by
  cases i <;> simp only [exec, execSetProto, execSetRep, execCfgOut, execCfgIn, execSetTol, execEmit, execSendBits,
    execPutSym, execSendBin, execSendTri, execAvail, execRstAvail, execRdValue, execRdLen, execRdUnit, execRdProto]
  case sendTri n =>
    split
    · exact ⟨_, rfl⟩
    · split <;> exact ⟨_, rfl⟩
  all_goals first | exact ⟨_, rfl⟩ | (split <;> exact ⟨_, rfl⟩)

end Sys2Proof.Machine
end

