-- ==== Sys2Proof/Laws/PerInstr.lean ====
section
/-! SUPPORT. What holds of the encoding of every command, one lemma per command: the fields of its word are
those its row of the opcode map allows (30_encoding.md R92, R93). -/

namespace Sys2Proof.Laws

/-- The word of a command has the opcode of one row of the opcode map, with that row's format, and the fields
the format does not use are zero (R92, R93). -/
def EncodedWord.Statement (i : Instr) : Prop :=
  i.format.admits (encodeFields i) = true ∧
    ∃ r ∈ opcodeMap, r.op = (encodeFields i).op ∧ r.format = i.format ∧ r.build (encodeFields i) = i

/-- The short operand stored in the low byte of `d` is read back whole (R90). -/
theorem low_byte (x : Byte) : BitVec.extractLsb' 0 8 (x.zeroExtend 32) = x := by
  apply BitVec.eq_of_getLsbD_eq
  intro k hk
  simp [hk]
  intro
  omega

/-- A short operand leaves the upper 24 bits of `d` zero (R92). -/
theorem high_bits (x : Byte) : BitVec.extractLsb' 8 24 (x.zeroExtend 32) = 0#24 := by
  apply BitVec.eq_of_getLsbD_eq
  intro k hk
  simp

/-- A command with one short operand leaves `d` zero (R92). -/
theorem admits_a (op a : Byte) : Format.a.admits ⟨op, a, 0⟩ = true := by
  simp [Format.admits, CmdFields.dHigh, CmdFields.b]

theorem EncodedWord.setProto (index : Byte) : EncodedWord.Statement (.setProto index) :=
  ⟨admits_a 0x01 index, opcodeMap[0], by simp [opcodeMap, configRows], rfl, rfl, rfl⟩
theorem EncodedWord.setRep (n : Byte) : EncodedWord.Statement (.setRep n) :=
  ⟨admits_a 0x02 n, opcodeMap[1], by simp [opcodeMap, configRows], rfl, rfl, rfl⟩
theorem EncodedWord.cfgOut (pin : Byte) : EncodedWord.Statement (.cfgOut pin) :=
  ⟨admits_a 0x03 pin, opcodeMap[2], by simp [opcodeMap, configRows], rfl, rfl, rfl⟩
theorem EncodedWord.cfgIn (pin : Byte) : EncodedWord.Statement (.cfgIn pin) :=
  ⟨admits_a 0x04 pin, opcodeMap[3], by simp [opcodeMap, configRows], rfl, rfl, rfl⟩
theorem EncodedWord.setTol (percent : Byte) : EncodedWord.Statement (.setTol percent) :=
  ⟨admits_a 0x05 percent, opcodeMap[4], by simp [opcodeMap, configRows], rfl, rfl, rfl⟩
theorem EncodedWord.emit (high low : Byte) : EncodedWord.Statement (.emit high low) :=
  ⟨by simp only [Instr.format, Format.admits, CmdFields.dHigh, encodeFields, high_bits]; rfl,
    opcodeMap[5], by simp [opcodeMap, configRows, transmitRows], rfl, rfl,
    congrArg (Instr.emit high) (low_byte low)⟩
theorem EncodedWord.sendBits (bitLength : Byte) (codeValue : Word) :
    EncodedWord.Statement (.sendBits bitLength codeValue) :=
  ⟨rfl, opcodeMap[6], by simp [opcodeMap, configRows, transmitRows], rfl, rfl, rfl⟩
theorem EncodedWord.putSym (index character : Byte) : EncodedWord.Statement (.putSym index character) :=
  ⟨by simp only [Instr.format, Format.admits, CmdFields.dHigh, encodeFields, high_bits]; rfl,
    opcodeMap[7], by simp [opcodeMap, configRows, transmitRows], rfl, rfl,
    congrArg (Instr.putSym index) (low_byte character)⟩
theorem EncodedWord.sendBin (n : Byte) : EncodedWord.Statement (.sendBin n) :=
  ⟨admits_a 0x13 n, opcodeMap[8], by simp [opcodeMap, configRows, transmitRows], rfl, rfl, rfl⟩
theorem EncodedWord.sendTri (n : Byte) : EncodedWord.Statement (.sendTri n) :=
  ⟨admits_a 0x14 n, opcodeMap[9], by simp [opcodeMap, configRows, transmitRows], rfl, rfl, rfl⟩
theorem EncodedWord.avail : EncodedWord.Statement .avail :=
  ⟨rfl, opcodeMap[10], by simp [opcodeMap, configRows, transmitRows, consumerRows], rfl, rfl, rfl⟩
theorem EncodedWord.rstAvail : EncodedWord.Statement .rstAvail :=
  ⟨rfl, opcodeMap[11], by simp [opcodeMap, configRows, transmitRows, consumerRows], rfl, rfl, rfl⟩
theorem EncodedWord.rdValue : EncodedWord.Statement .rdValue :=
  ⟨rfl, opcodeMap[12], by simp [opcodeMap, configRows, transmitRows, consumerRows], rfl, rfl, rfl⟩
theorem EncodedWord.rdLen : EncodedWord.Statement .rdLen :=
  ⟨rfl, opcodeMap[13], by simp [opcodeMap, configRows, transmitRows, consumerRows], rfl, rfl, rfl⟩
theorem EncodedWord.rdUnit : EncodedWord.Statement .rdUnit :=
  ⟨rfl, opcodeMap[14], by simp [opcodeMap, configRows, transmitRows, consumerRows], rfl, rfl, rfl⟩
theorem EncodedWord.rdProto : EncodedWord.Statement .rdProto :=
  ⟨rfl, opcodeMap[15], by simp [opcodeMap, configRows, transmitRows, consumerRows], rfl, rfl, rfl⟩

end Sys2Proof.Laws
end

