-- ==== Sys2Proof/Laws/Step.lean ====
section
/-! SUPPORT. Whose turn it is, and what a step can be: one case per agent. -/

namespace Sys2Proof.Machine

theorem turn_nil {s : State} (h : s.inputs = []) : turn s = (.tick, s.inputs) := by
  unfold turn
  rw [h]

theorem turn_held {s : State} {w : CmdWord} {rest : List Input} (h : s.inputs = .cmd w :: rest)
    (hb : s.txBusy = true) : turn s = (.tick, s.inputs) := by
  unfold turn
  rw [h, hb]
  rfl

theorem turn_cmd {s : State} {w : CmdWord} {rest : List Input} (h : s.inputs = .cmd w :: rest)
    (hb : s.txBusy = false) : turn s = (.cmd w, rest) := by
  unfold turn
  rw [h, hb]
  rfl

theorem turn_tick {s : State} {rest : List Input} (h : s.inputs = .tick :: rest) : turn s = (.tick, rest) := by
  unfold turn
  rw [h]

theorem turn_edge {s : State} {rest : List Input} (h : s.inputs = .edge :: rest) : turn s = (.edge, rest) := by
  unfold turn
  rw [h]

theorem turn_rst {s : State} {rest : List Input} (h : s.inputs = .rst :: rest) : turn s = (.rst, rest) := by
  unfold turn
  rw [h]

/-- A step is the act of the input whose turn it is, on the state without that input. -/
theorem step_of_turn {s : State} {i : Input} {rest : List Input} (h : turn s = (i, rest)) :
    step s = act i { s with inputs := rest } := by
  unfold step
  rw [h]

/-- A host command moves only while TX_BUSY = 0 (R137). -/
theorem turn_cmd_idle {s : State} {w : CmdWord} (h : (turn s).1 = .cmd w) : s.txBusy = false := by
  unfold turn at h
  split at h
  · cases h
  · split at h
    · cases h
    · rename_i hb
      simpa using hb
  all_goals cases h

/-- What a step that answers a next state was: a tick, an edge, a reset, a command of the opcode map, or an
illegal word (R7, R95, R280). -/
theorem step_cases {s t : State} (h : step s = .next t) :
    ((turn s).1 = .tick ∧ t = noResponse (tick { s with inputs := (turn s).2 })) ∨
    ((turn s).1 = .edge ∧ t = noResponse (edge { s with inputs := (turn s).2 })) ∨
    ((turn s).1 = .rst ∧ t = resetAll { s with inputs := (turn s).2 }) ∨
    (∃ w i, (turn s).1 = .cmd w ∧ s.txBusy = false ∧ decode w = .ok i ∧
      exec i { s with inputs := (turn s).2 } = .next t) ∨
    (∃ w e, (turn s).1 = .cmd w ∧ s.txBusy = false ∧ decode w = .error e ∧
      t = refuse { s with inputs := (turn s).2 }) := by
  unfold step at h
  cases hi : (turn s).1 with
  | tick =>
    rw [hi] at h
    cases h
    exact .inl ⟨rfl, rfl⟩
  | edge =>
    rw [hi] at h
    cases h
    exact .inr (.inl ⟨rfl, rfl⟩)
  | rst =>
    rw [hi] at h
    cases h
    exact .inr (.inr (.inl ⟨rfl, rfl⟩))
  | cmd w =>
    have hb := turn_cmd_idle hi
    rw [hi] at h
    simp only [act, hostCmd] at h
    cases hd : decode w with
    | ok i =>
      rw [hd] at h
      exact .inr (.inr (.inr (.inl ⟨w, i, rfl, hb, hd, h⟩)))
    | error e =>
      rw [hd] at h
      cases h
      exact .inr (.inr (.inr (.inr ⟨w, e, rfl, hb, hd, rfl⟩)))

end Sys2Proof.Machine
end

