-- ==== Sys2Proof/Tests/Slice0.lean ====
section
/-! SUPPORT. Small tests. The expected values come from the spec: the test vectors V<n> and RT1 of
95_test_vectors.md (which use PT_DEFAULT), the encoding tables of 30_encoding.md and the reset column of R48.
The witnesses at the end show, for each statement with hypotheses, a concrete state and operands that meet them. -/

namespace Sys2Proof.Tests
open Sys2Proof Sys2Proof.Machine

/-! ### WellFormed: each check refuses an ill-formed word (R92) -/

theorem test_n_refuses_a : Format.n.admits ⟨0x20, 1, 0⟩ = false := by decide
theorem test_n_refuses_b : Format.n.admits ⟨0x20, 0, 1⟩ = false := by decide
theorem test_n_refuses_d_high : Format.n.admits ⟨0x20, 0, 0x100⟩ = false := by decide
theorem test_a_refuses_b : Format.a.admits ⟨0x01, 6, 1⟩ = false := by decide
theorem test_a_refuses_d_high : Format.a.admits ⟨0x01, 6, 0x80000000⟩ = false := by decide
theorem test_ab_refuses_d_high : Format.ab.admits ⟨0x10, 1, 0x100⟩ = false := by decide
theorem test_ad_admits_all : Format.ad.admits ⟨0x11, 0xFF, 0xFFFFFFFF⟩ = true := by decide

/-! ### Decoding: one word of every command, written out from R90 and R93 -/

theorem test_decode_setproto : decode 0x010600000000 = .ok (.setProto 6) := by decide
theorem test_decode_setrep : decode 0x02FF00000000 = .ok (.setRep 255) := by decide
theorem test_decode_cfgout : decode 0x030A00000000 = .ok (.cfgOut 10) := by decide
theorem test_decode_cfgin : decode 0x040200000000 = .ok (.cfgIn 2) := by decide
theorem test_decode_settol : decode 0x053C00000000 = .ok (.setTol 60) := by decide
theorem test_decode_emit : decode 0x101700000001 = .ok (.emit 23 1) := by decide
theorem test_decode_sendbits : decode 0x112080000001 = .ok (.sendBits 32 0x80000001) := by decide
theorem test_decode_putsym : decode 0x121F00000031 = .ok (.putSym 31 0x31) := by decide
theorem test_decode_sendbin : decode 0x132100000000 = .ok (.sendBin 33) := by decide
theorem test_decode_sendtri : decode 0x141100000000 = .ok (.sendTri 17) := by decide
theorem test_decode_avail : decode 0x200000000000 = .ok .avail := by decide
theorem test_decode_rstavail : decode 0x210000000000 = .ok .rstAvail := by decide
theorem test_decode_rdvalue : decode 0x220000000000 = .ok .rdValue := by decide
theorem test_decode_rdlen : decode 0x230000000000 = .ok .rdLen := by decide
theorem test_decode_rdunit : decode 0x240000000000 = .ok .rdUnit := by decide
theorem test_decode_rdproto : decode 0x250000000000 = .ok .rdProto := by decide
/-- V4, V5, V6, V7, V8, V9 -/
theorem test_decode_illegal :
    decode 0x000000000000 = .error .reservedOpcode ∧ decode 0x010600000001 = .error .unusedFieldNonzero ∧
    decode 0x200100000000 = .error .unusedFieldNonzero ∧ decode 0x100100000100 = .error .unusedFieldNonzero ∧
    decode 0x260000000000 = .error .reservedOpcode ∧ decode 0xFFFFFFFFFFFF = .error .reservedOpcode := by decide
theorem test_decode_table_word : decodeTableWord 48 0x010600000000 = some (.setProto 6) := by decide

/-! ### Helpers -/

/-- The cells of an array, from index 0 on. -/
def cells (w : Nat) (l : List Nat) : Memory w :=
  (l.foldl (fun a v => (a.1 + 1, Memory.write a.2 a.1 (BitVec.ofNat w v))) (0, ([] : Memory w))).2

/-- The state after a `next` outcome. -/
def after (o : Host.Outcome State Fault Refusal) : Option State :=
  match o with
  | .next s => some s
  | .fault _ => none
  | .refused _ => none

/-- The state after a command. -/
def cmd (i : Instr) (s : State) : State := (after (exec i s)).getD State.reset

/-- The response to a command. -/
def answer (i : Instr) (s : State) : Option Response := (cmd i s).resp

/-- Reset state with OUT_PIN = 10 and one repeat: the start state of the transmitter's vectors. -/
def ready : State := { State.reset with outPin := 10, txRepeat := 1 }

/-- Reset state with symbols. -/
def symbols (l : List Nat) : State := { ready with sym := cells 8 l }

/-- Reset state with IN_PIN = 2, a buffer, the two counters, LAST_TIME and T. -/
def listening (tb : List Nat) (changeCnt repeatCnt : Nat) (lastTime t : Word) : State :=
  { State.reset with
    inPin := 2, tb := cells 32 tb, changeCnt := BitVec.ofNat 7 changeCnt, repeatCnt := BitVec.ofNat 2 repeatCnt
    lastTime := lastTime, ovf := t.extractLsb' 16 16, tcnt := t.extractLsb' 0 16 }

/-- The buffer of V50. -/
def frameV50 : List Nat := [10850, 350, 1050, 1050, 350, 1050, 350, 1050, 350, 350]

/-- The Decoded Result as V37 and V50 write it. -/
def result (s : State) : Bool × Nat × Nat × Nat × Nat :=
  (s.resValid, s.resValue.toNat, s.resLen.toNat, s.resUnit.toNat, s.resProto.toNat)

/-! ### Commands -/

/-- V22 -/
theorem test_setproto_99 : (cmd (.setProto 99) State.reset).txProto = 1 := by decide
theorem test_setproto_6 : (cmd (.setProto 6) State.reset).txProto = 6 := by decide
theorem test_setrep_0 : (cmd (.setRep 0) State.reset).txRepeat = 0 := by decide
theorem test_cfgout_leaves_out : (cmd (.cfgOut 10) State.reset).outPin = 10 ∧ (cmd (.cfgOut 10) State.reset).out = false := by decide
/-- V48 -/
theorem test_cfgin : (cmd (.cfgIn 2) State.reset).inPin = 2 := by decide
/-- V64 -/
theorem test_settol_255 : (cmd (.setTol 255) State.reset).rxTol = 255 := by decide
/-- V20: the state right after V13's EMIT 1, 31. -/
theorem test_emit_v20 :
    let t := cmd (.emit 1 31) ready
    t.txBusy = true ∧ t.out = true ∧ t.txRemain = 350 ∧ t.txSegs = [⟨false, 10850⟩] := by decide
/-- V17: inverted, both segments of length zero. -/
theorem test_emit_v17 :
    let t := cmd (.emit 0 0) { ready with txProto := 6 }
    t.txBusy = false ∧ t.out = true ∧ answer (.emit 0 0) { ready with txProto := 6 } = some ⟨true, 0⟩ := by decide
/-- V23: the segment list of SENDBITS 4, 0x5 under protocol 1. -/
theorem test_sendbits_v23 :
    sendSegs (protocolAt ptDefault 1) 5 4 1 =
      [⟨true, 350⟩, ⟨false, 1050⟩, ⟨true, 1050⟩, ⟨false, 350⟩, ⟨true, 350⟩, ⟨false, 1050⟩, ⟨true, 1050⟩, ⟨false, 350⟩,
        ⟨true, 350⟩, ⟨false, 10850⟩] := by decide
/-- V27, V31: the length limit comes before the missing pin. -/
theorem test_sendbits_v27 :
    answer (.sendBits 33 1) State.reset = some ⟨false, 0⟩ ∧ answer (.sendBits 32 0x80000001) State.reset = some ⟨true, 0⟩ := by
  decide
/-- V30 -/
theorem test_putsym_v30 :
    (cmd (.putSym 31 0x31) State.reset).sym.read 31 = 0x31 ∧ answer (.putSym 32 0x31) State.reset = some ⟨false, 0⟩ := by decide
/-- V28 (b): 'F' and 0x00 count as 1. -/
theorem test_sendbin_v28 : binCode (cells 8 [0x30, 0x46]) 3 = 3 := by decide
theorem test_sendbin_33 : answer (.sendBin 33) State.reset = some ⟨false, 0⟩ := by decide
/-- V29 (a), (f) -/
theorem test_sendtri_v29 :
    triCode (cells 8 [0x30, 0x46, 0x31]) 3 = some 7 ∧
    triCode (cells 8 [0x46, 0x46, 0x30, 0x46, 0x30, 0x30, 0x30, 0x31, 0x30, 0x46, 0x31, 0x46, 0x30, 0x46, 0x31, 0x46]) 16
      = some 0x51031D1D := by decide
/-- V29 (c), V31: a bad symbol is refused although no pin is configured. -/
theorem test_sendtri_refused :
    answer (.sendTri 3) (symbols [0x30, 0x66, 0x31]) = some ⟨false, 0⟩ ∧
    answer (.sendTri 1) { State.reset with sym := cells 8 [0x58] } = some ⟨false, 0⟩ := by decide

/-- The state of V66: the result (7, 4, 350, 1) stands. -/
def withResult : State :=
  { State.reset with resValid := true, resValue := 7, resLen := 4, resUnit := 350, resProto := 1 }

theorem test_avail : answer .avail withResult = some ⟨true, 1⟩ := by decide
theorem test_rdvalue : answer .rdValue withResult = some ⟨true, 7⟩ := by decide
theorem test_rdlen : answer .rdLen withResult = some ⟨true, 4⟩ := by decide
theorem test_rdunit : answer .rdUnit withResult = some ⟨true, 350⟩ := by decide
theorem test_rdproto : answer .rdProto withResult = some ⟨true, 1⟩ := by decide
theorem test_rstavail : result (cmd .rstAvail withResult) = (false, 0, 0, 0, 0) := by decide

/-! ### Events -/

/-- V21 (a), (b) -/
theorem test_tick_v21 :
    (tick { State.reset with ovf := 1, tcnt := 0xFFFF }).ovf = 2 ∧
    time (tick { State.reset with ovf := 0xFFFF, tcnt := 0xFFFF }) = 0 := by decide
/-- V18, V20: the last microsecond of a segment starts the next one, or ends the transmission. -/
theorem test_tick_advances :
    (tick { State.reset with out := true, txBusy := true, txRemain := 1, txSegs := [⟨false, 10850⟩] }).txRemain = 10850 ∧
    (tick { State.reset with out := true, txBusy := true, txRemain := 1, txSegs := [⟨false, 0⟩] }).txBusy = false := by decide
/-- V33 -/
theorem test_edge_v33 :
    let t := edge (listening [] 0 0 0 5000)
    t.tb = cells 32 [5000] ∧ t.changeCnt = 1 ∧ t.repeatCnt = 0 ∧ t.lastTime = 5000 := by decide
/-- V36 -/
theorem test_edge_v36 :
    let t := edge (listening [10850] 10 0 100000 110900)
    t.tb.read 0 = 10900 ∧ t.changeCnt = 1 ∧ t.repeatCnt = 1 := by decide
/-- V37: the whole receive path. -/
theorem test_edge_v37 :
    let t := edge (listening frameV50 10 1 140350 151200)
    result t = (true, 7, 4, 350, 1) ∧ t.changeCnt = 1 ∧ t.repeatCnt = 0 ∧ t.lastTime = 151200 := by decide
/-- V39, V40: 4300 is no candidate, 4301 is. -/
theorem test_edge_v39_v40 :
    (edge (listening [4300] 5 1 1000 5300)).changeCnt = 6 ∧ (edge (listening [4300] 5 0 1000 5301)).repeatCnt = 1 := by decide
/-- V41: 200 qualifies, 201 does not. -/
theorem test_edge_v41 :
    (edge (listening [10850] 10 0 0 11050)).repeatCnt = 1 ∧ (edge (listening [10850] 10 0 0 11051)).repeatCnt = 0 ∧
    (edge (listening [10850] 10 0 0 10650)).repeatCnt = 1 ∧ (edge (listening [10850] 10 0 0 10649)).repeatCnt = 0 := by decide
/-- V42: the full buffer. -/
theorem test_edge_v42 :
    let t := edge (listening [9999, 7] 67 1 1000 1500)
    t.tb = cells 32 [500, 7] ∧ t.changeCnt = 1 ∧ t.repeatCnt = 0 := by decide
/-- V44: the difference across the wrap of T. -/
theorem test_edge_v44 : (edge (listening [1] 3 0 0xFFFFFF00 0x100)).tb.read 3 = 512 := by decide
/-- V51: the length guard. -/
theorem test_guard_v51 :
    tryDecode 1 7 (listening [10850, 350, 1050, 1050, 350, 350, 1050, 350] 8 1 0 0) = none ∧
    tryDecode 1 8 (listening [10850, 350, 1050, 1050, 350, 350, 1050, 350] 8 1 0 0) = some ⟨2, 3, 350, 1⟩ := by decide
/-- V52: a deviation of 210 fits, 211 does not. -/
theorem test_tolerance_v52 :
    tryDecode 1 10 (listening [10850, 560, 1050, 1050, 350, 1050, 350, 1050, 350, 350] 10 1 0 0) = some ⟨7, 4, 350, 1⟩ ∧
    tryDecode 1 10 (listening [10850, 561, 1050, 1050, 350, 1050, 350, 1050, 350, 350] 10 1 0 0) = none := by decide
/-- V57: an inverted frame, found under its own index after five failures. -/
theorem test_coord_v57 :
    result (coord 14 (listening [10350, 450, 450, 900, 450, 900, 450, 900, 900, 450, 900, 450, 900, 450] 14 1 0 0))
      = (true, 7, 6, 450, 6) := by decide

/-! ### Fetch -/

theorem test_fetch_from_reset :
    step (State.reset.withFetchWord 48 0x010600000000) = exec (.setProto 6) State.reset := by rfl

/-! ### Witnesses: the hypotheses of the statements, met by concrete states and operands -/

theorem witness_encodeOfDecode : decode 0x016300000000 = .ok (.setProto 99) := by decide
theorem witness_opcodeMap_match : configRows[0] ∈ opcodeMap ∧ configRows[0].matches 0x01FF00000000 = true :=
  ⟨by simp [configRows, opcodeMap], by decide⟩
theorem witness_opcodeMap_no_match : ∀ r ∈ opcodeMap, r.matches 0x01FF00000001 = false := by decide

/-- A command word on the port of an idle block. -/
def waiting (w : CmdWord) : State := { ready with inputs := [.cmd w, .tick] }

theorem witness_stepRuns :
    (waiting 0x11040000000F).inputs = .cmd 0x11040000000F :: [.tick] ∧ (waiting 0x11040000000F).txBusy = false ∧
    decode 0x11040000000F = .ok (.sendBits 4 15) := by decide
theorem witness_illegalCommand :
    (waiting 0x260000000000).txBusy = false ∧ (∀ r ∈ opcodeMap, r.matches 0x260000000000 = false) ∧
    (waiting 0x200100000000).txBusy = false ∧ (∀ r ∈ opcodeMap, r.matches 0x200100000000 = false) := by decide

/-- An EMIT 1, 2 on the way out (two segments: 350 and 700 microseconds), a command on the port. -/
def sending : State := { cmd (.emit 1 2) ready with inputs := [.cmd 0x220000000000] }

theorem witness_busy : sending.inputs = .cmd 0x220000000000 :: [] ∧ sending.txBusy = true := by decide
theorem witness_sending_legal : LegalState sending :=
  ⟨by decide, by decide, by decide, by decide, by decide, by decide, by decide, by decide, by decide, by decide, by decide,
    by decide, by decide⟩
theorem witness_events :
    { sending with inputs := [.tick] }.inputs = .tick :: [] ∧ { sending with inputs := [.edge] }.inputs = .edge :: [] ∧
    { sending with inputs := [.rst] }.inputs = .rst :: [] ∧ State.reset.inputs = [] := by decide

/-- The state of V37 with its edge still to come. -/
def capturing : State := { listening frameV50 10 1 140350 151200 with inputs := [.edge] }

theorem witness_capturing_legal : LegalState capturing ∧ step capturing = .next (noResponse (edge { capturing with inputs := [] })) :=
  ⟨⟨by decide, by decide, by decide, by decide, by decide, by decide, by decide, by decide, by decide, by decide, by decide,
    by decide, by decide⟩, rfl⟩
theorem witness_table : tableOk ptDefault = true := by decide
theorem witness_idle : State.reset.txBusy = false ∧ ready.txBusy = false := by decide
/-- The boundary operands of SETPROTO's two cases. -/
theorem witness_setProto :
    ¬ (1 ≤ (0 : Byte).toNat) ∧ (1 ≤ (1 : Byte).toNat ∧ (6 : Byte).toNat ≤ 6) ∧ ¬ ((7 : Byte).toNat ≤ 6) := by decide
theorem witness_pinIdentity :
    (10 : Byte) ≠ 0xFF ∧ (11 : Byte) ≠ 0xFF ∧ { ready with inPin := 10 }.outPin = 10 ∧ { ready with inPin := 10 }.inPin = 10 ∧
    exec (.sendBits 1 1) { ready with inPin := 10 } = .next (cmd (.sendBits 1 1) { ready with inPin := 10 }) ∧
    (∀ x, Instr.sendBits 1 1 ≠ .cfgOut x) ∧ (∀ x, Instr.sendBits 1 1 ≠ .cfgIn x) :=
  ⟨by decide, by decide, rfl, rfl, rfl, (fun _ h => by cases h), (fun _ h => by cases h)⟩
/-- The four forms of EMIT: no pin, both parts, no first part, neither part. -/
theorem witness_emit :
    State.reset.outPin = 0xFF ∧ ready.outPin ≠ 0xFF ∧ 350 * (1 : Byte).toNat ≠ 0 ∧ 350 * (0 : Byte).toNat = 0 := by decide
theorem witness_sendBits : 32 < (33 : Byte).toNat ∧ ¬ 32 < (32 : Byte).toNat ∧ ready.outPin ≠ 0xFF := by decide
theorem witness_sendBin : ready.txBusy = false ∧ 32 < (33 : Byte).toNat ∧ (32 : Byte).toNat ≤ 32 := by decide
theorem witness_sendTri_count : ready.txBusy = false ∧ 16 < (17 : Byte).toNat ∧ (16 : Byte).toNat ≤ 16 := by decide
/-- The last of 16 symbols is bad, and 16 good ones. -/
theorem witness_sendTri_symbols :
    (∃ k, k < 16 ∧ (cells 8 (List.replicate 15 0x46 ++ [0x58])).read k ≠ 0x30 ∧
      (cells 8 (List.replicate 15 0x46 ++ [0x58])).read k ≠ 0x46 ∧ (cells 8 (List.replicate 15 0x46 ++ [0x58])).read k ≠ 0x31) ∧
    (∀ k, k < 16 → (cells 8 (List.replicate 16 0x46)).read k = 0x30 ∨ (cells 8 (List.replicate 16 0x46)).read k = 0x46 ∨
      (cells 8 (List.replicate 16 0x46)).read k = 0x31) :=
  ⟨⟨15, by decide⟩, by decide⟩
theorem witness_putSym : State.reset.sym.wf 32 = true ∧ 31 < (32 : Byte).toNat ∧ (31 : Byte).toNat ≤ 31 := by decide
theorem witness_segmentList : (2 : Nat) < 3 ∧ (3 : Nat) < 4 := by decide
theorem witness_wholeTransmission :
    [⟨true, 350⟩, ⟨false, 0⟩, ⟨true, 700⟩] = [⟨true, 350⟩, ⟨false, 0⟩] ++ (⟨true, 700⟩ : Segment) :: [] ∧
    totalDur [⟨true, 350⟩, ⟨false, 0⟩] ≤ 350 ∧ 350 < totalDur [⟨true, 350⟩, ⟨false, 0⟩] + (700 : BitVec 24).toNat ∧
    totalDur [⟨true, 350⟩, ⟨false, 0⟩, ⟨true, 700⟩] = 1050 := by decide
theorem witness_hold : ready.txBusy = false ∧ (32 : Byte).toNat ≤ 32 ∧ ready.outPin ≠ 0xFF := by decide
theorem witness_held :
    LegalState sending ∧ sending.txBusy = true ∧ sending.inputs = .cmd 0x220000000000 :: [] ∧
    1049 < sending.txRemain.toNat + totalDur sending.txSegs :=
  ⟨witness_sending_legal, by decide⟩
theorem witness_tick_counts : { ready with tcnt := 0xFFFF }.tcnt = 0xFFFF ∧ ready.tcnt ≠ 0xFFFF := by decide
theorem witness_tick_advances :
    ready.txBusy = false ∧ (sending.txBusy = true ∧ 2 ≤ sending.txRemain.toNat) ∧
    ({ sending with txRemain := 2 }.txBusy = true ∧ 2 ≤ { sending with txRemain := 2 }.txRemain.toNat) ∧
    ({ sending with txRemain := 1 }.txSegs = (⟨false, 700⟩ : Segment) :: [] ∧ (700 : BitVec 24) ≠ 0) ∧
    ({ sending with txRemain := 1, txSegs := [] }.txBusy = true) := by decide
theorem witness_no_input_line : State.reset.inPin = 0xFF := by decide
/-- A duration of exactly 4300 into the last free slot. -/
theorem witness_edge_appends :
    let s := listening [9999] 66 1 1000 5300
    s.inPin ≠ 0xFF ∧ (time s - s.lastTime).toNat = 4300 ∧ s.changeCnt.toNat = 66 := by decide
theorem witness_edge_full :
    let s := listening [9999] 67 1 1000 5300
    s.inPin ≠ 0xFF ∧ (time s - s.lastTime).toNat = 4300 ∧ s.changeCnt = 67 := by decide
/-- A candidate of 4301 that is 201 away from slot 0, and one that is 200 away. -/
theorem witness_gap_not_qualifying :
    let s := listening [4502] 10 1 1000 5301
    s.inPin ≠ 0xFF ∧ (time s - s.lastTime).toNat = 4301 ∧ absdiff (time s - s.lastTime).toNat (s.tb.read 0).toNat = 201 := by
  decide
theorem witness_gap_first :
    let s := listening [4501] 10 0 1000 5301
    s.inPin ≠ 0xFF ∧ (time s - s.lastTime).toNat = 4301 ∧ absdiff (time s - s.lastTime).toNat (s.tb.read 0).toNat = 200 ∧
    s.repeatCnt = 0 := by decide
/-- V37: a second qualifying gap whose frame decodes under protocol 1. -/
theorem witness_gap_second :
    let s := listening frameV50 10 1 140350 151200
    s.inPin ≠ 0xFF ∧ 4300 < (time s - s.lastTime).toNat ∧ absdiff (time s - s.lastTime).toNat (s.tb.read 0).toNat ≤ 200 ∧
    s.repeatCnt = 1 ∧ tryDecode 1 s.changeCnt.toNat s = some ⟨7, 4, 350, 1⟩ := by decide
/-- V59's noise: no protocol decodes it. -/
theorem witness_gap_second_noise :
    let s := listening [5000, 100, 2000, 37, 900, 4000, 20, 20, 20, 20] 10 1 0 5000
    s.inPin ≠ 0xFF ∧ 4300 < (time s - s.lastTime).toNat ∧ absdiff (time s - s.lastTime).toNat (s.tb.read 0).toNat ≤ 200 ∧
    s.repeatCnt = 1 ∧ tryDecode 1 10 s = none ∧ tryDecode 2 10 s = none ∧ tryDecode 3 10 s = none ∧ tryDecode 4 10 s = none ∧
    tryDecode 5 10 s = none ∧ tryDecode 6 10 s = none := by decide
theorem witness_edge_writes : (listening frameV50 10 1 140350 151200).tb.wf 67 = true := by decide
theorem witness_short : (7 : Nat) ≤ 7 := by decide
/-- V57 under index 6, and V51 with the fewest edges that decode. -/
theorem witness_published :
    tryDecode 6 14 (listening [10350, 450, 450, 900, 450, 900, 450, 900, 900, 450, 900, 450, 900, 450] 14 1 0 0)
      = some ⟨7, 6, 450, 6⟩ ∧
    tryDecode 1 8 (listening [10850, 350, 1050, 1050, 350, 350, 1050, 350] 8 1 0 0) = some ⟨2, 3, 350, 1⟩ ∧
    tableOk (listening [] 0 0 0 0).pt = true := by decide
theorem witness_coordinator :
    let s := listening [10350, 450, 450, 900, 450, 900, 450, 900, 900, 450, 900, 450, 900, 450] 14 1 0 0
    tryDecode 1 14 s = none ∧ tryDecode 2 14 s = none ∧ tryDecode 3 14 s = none ∧ tryDecode 4 14 s = none ∧
    tryDecode 5 14 s = none ∧ tryDecode 6 14 s = some ⟨7, 6, 450, 6⟩ := by decide
/-- The two clauses of the matcher's loop: the buffer of V50, and the same with slot 7 far off. -/
theorem witness_matcher :
    let bit := fun (tb : Memory 32) (k : Nat) =>
      classify (protocolAt ptDefault 1) 350 210 (tb.read (1 + 2 * k)).toNat (tb.read (1 + 2 * k + 1)).toNat
    (∀ k, k < (10 - 1) / 2 → bit (cells 32 frameV50) k ≠ none) ∧
    bit (cells 32 [10850, 350, 1050, 1050, 350, 1050, 350, 5, 350, 350]) 3 = none := by decide
/-- Two buffers that differ at the edge count and above only. -/
theorem witness_recorded_slots : ∀ a, a < 10 → (cells 32 (frameV50 ++ [77])).read a = (cells 32 frameV50).read a := by decide
/-- Deviations of exactly 210 fit, 211 do not: the three outcomes of PairClassification. -/
theorem witness_classify :
    classify (protocolAt ptDefault 1) 350 210 560 1260 = some false ∧
    classify (protocolAt ptDefault 1) 350 210 840 560 = some true ∧
    classify (protocolAt ptDefault 1) 350 210 561 1050 = none := by decide

/-- RT1 for L = 3 under protocol 1. -/
theorem witness_roundTrip_shortest :
    let s := listening [10850, 350, 1050, 1050, 350, 350, 1050, 350] 8 1 0 0
    let P := protocolAt s.pt 1
    P.sync.high.toNat ≤ P.sync.low.toNat ∧ 1 ≤ P.sync.low.toNat ∧
    P.unit.toNat * s.rxTol.toNat / 100 < P.unit.toNat * absdiff P.one.high.toNat P.zero.high.toNat ∧
    (s.tb.read 0).toNat = P.unit.toNat * P.sync.low.toNat ∧ HoldsFrame P P.unit.toNat 0 2 3 1 s.tb := by
  unfold HoldsFrame; decide
/-- RT1 for L = 32 under protocol 1: a frame of ones. -/
theorem witness_roundTrip_longest :
    let s := listening (10850 :: (List.replicate 32 [1050, 350]).flatten) 66 1 0 0
    let P := protocolAt s.pt 1
    (s.tb.read 0).toNat = P.unit.toNat * P.sync.low.toNat ∧ HoldsFrame P P.unit.toNat 0 0xFFFFFFFF 32 1 s.tb := by
  unfold HoldsFrame; decide
/-- RT1 under the inverted protocol 6. -/
theorem witness_roundTrip_inverted :
    let s := listening [10350, 450, 450, 900, 450, 900, 450, 900, 900, 450, 900, 450, 900, 450] 14 1 0 0
    let P := protocolAt s.pt 6
    P.inv = true ∧ P.sync.low.toNat ≤ P.sync.high.toNat ∧
    P.unit.toNat * s.rxTol.toNat / 100 < P.unit.toNat * absdiff P.one.high.toNat P.zero.high.toNat ∧
    (s.tb.read 0).toNat = P.unit.toNat * P.sync.high.toNat ∧ HoldsFrame P P.unit.toNat 0 7 6 2 s.tb := by
  unfold HoldsFrame; decide
/-- V52: every slot within the tolerance of 210, slot 1 at exactly 210; no one-pair fits the zero pattern. -/
theorem witness_tolerance_within :
    let s := listening [10850, 560, 1050, 1050, 350, 1050, 350, 1050, 350, 350] 10 1 0 0
    let P := protocolAt s.pt 1
    unitEstimate P s.tb = 350 ∧ HoldsFrame P 350 210 7 4 1 s.tb ∧
    (∀ k, k < 4 → (7 : Word).getLsbD (4 - 1 - k) = true →
      ¬ (absdiff (s.tb.read (1 + 2 * k)).toNat (350 * P.zero.high.toNat) ≤ 210 ∧
         absdiff (s.tb.read (1 + 2 * k + 1)).toNat (350 * P.zero.low.toNat) ≤ 210)) := by
  unfold HoldsFrame; decide
/-- V52: slot 1 at 211 from the zero pattern's high part and farther from the one pattern's. -/
theorem witness_tolerance_beyond :
    let s := listening [10850, 561, 1050, 1050, 350, 1050, 350, 1050, 350, 350] 10 1 0 0
    let P := protocolAt s.pt 1
    (1 + 2 * 0 + 1 < 10) ∧ 210 < absdiff (s.tb.read 1).toNat (350 * P.zero.high.toNat) ∧
    210 < absdiff (s.tb.read 1).toNat (350 * P.one.high.toNat) := by decide
theorem witness_refused :
    exec (.sendBits 33 0) State.reset = .next (cmd (.sendBits 33 0) State.reset) ∧
    (cmd (.sendBits 33 0) State.reset).resp = some ⟨false, 0⟩ := ⟨rfl, by decide⟩
theorem witness_not_a_read : exec (.putSym 31 0x31) State.reset = .next (cmd (.putSym 31 0x31) State.reset) ∧ isRead (.putSym 31 0x31) = false :=
  ⟨rfl, rfl⟩
theorem witness_transmits : transmits (.emit 1 31) = true ∧ exec (.emit 1 31) ready = .next (cmd (.emit 1 31) ready) := ⟨rfl, rfl⟩
/-- A read on the port of an idle block: the input that moves is no tick, no edge, no reset and no RSTAVAIL. -/
theorem witness_turn :
    step (waiting 0x220000000000) = .next (cmd .rdValue { ready with inputs := [.tick] }) ∧
    (turn (waiting 0x220000000000)).1 = .cmd 0x220000000000 ∧ decode 0x220000000000 = .ok .rdValue ∧
    transmits .rdValue = false ∧ (0x220000000000 : CmdWord) ≠ encode .rstAvail := ⟨rfl, by decide⟩
theorem witness_edge_unlistened :
    { State.reset with inputs := [.edge] }.inPin = 0xFF ∧
    (turn { State.reset with inputs := [.edge] }).1 = .edge := by decide
/-- A read in two states that differ in the symbols too, and a SENDTRI in two states whose symbols agree. -/
theorem witness_responses :
    SameResult withResult { withResult with txProto := 3, outPin := 10, tcnt := 77, sym := cells 8 [0x31] } ∧
    (∀ n, Instr.rdValue = .sendTri n → cells 8 [0x31] = withResult.sym) ∧
    exec .rdValue withResult = .next (cmd .rdValue withResult) ∧
    exec (.sendTri 1) (symbols [0x30]) = .next (cmd (.sendTri 1) (symbols [0x30])) ∧
    SameResult (symbols [0x30]) { symbols [0x30] with outPin := 0xFF } :=
  ⟨⟨rfl, rfl, rfl, rfl, rfl⟩, (fun _ h => by cases h), rfl, rfl, rfl, rfl, rfl, rfl, rfl⟩
theorem witness_captureIgnores :
    SameTime capturing { capturing with out := true, txBusy := true, txRemain := 9 } ∧
    SameCapture capturing { capturing with out := true, txBusy := true, txRemain := 9 } ∧
    SameResult capturing { capturing with out := true, txBusy := true, txRemain := 9 } :=
  ⟨⟨rfl, rfl⟩, ⟨rfl, rfl, rfl, rfl⟩, rfl, rfl, rfl, rfl, rfl⟩
theorem witness_equalContents : Memory.wf 67 (cells 32 [5, 0, 7]) = true ∧ Memory.wf 67 (cells 32 [5, 0, 7, 0]) = true := by decide

end Sys2Proof.Tests
end

section
/-! PROOFS. The statements about the state of the block (10_state.md): the reset values, and what a command and a
microsecond can do and leave alone. -/

namespace Sys2Proof.Machine

/-! ### What a command can do -/

/-- The level order of a pair depends on the protocol, its durations are products in range either way (R29, R130). -/
theorem pairSegs_dur_le (P : Protocol) (pair : PulsePair) : ∀ g ∈ pairSegs P pair, g.dur.toNat ≤ 16711425 := by
  unfold pairSegs
  split <;> simp [dur_le]

theorem dataSegs_dur_le (P : Protocol) (code : Word) (len : Nat) :
    ∀ g ∈ dataSegs P code len, g.dur.toNat ≤ 16711425 := by
  induction len with
  | zero => simp [dataSegs]
  | succ len ih =>
    intro g hg
    rcases List.mem_append.1 hg with hpair | hrest
    · exact pairSegs_dur_le P _ g hpair
    · exact ih g hrest

theorem frameSegs_dur_le (P : Protocol) (code : Word) (len : Nat) :
    ∀ g ∈ frameSegs P code len, g.dur.toNat ≤ 16711425 := by
  intro g hg
  rcases List.mem_append.1 hg with hdata | hsync
  · exact dataSegs_dur_le P code len g hdata
  · exact pairSegs_dur_le P _ g hsync

/-- Repeating a frame brings no other segment in (R153). -/
theorem sendSegs_dur_le (P : Protocol) (code : Word) (len repeats : Nat) :
    ∀ g ∈ sendSegs P code len repeats, g.dur.toNat ≤ 16711425 := by
  intro g hg
  obtain ⟨frame, hframe, hmem⟩ := List.mem_flatten.1 hg
  rw [List.eq_of_mem_replicate hframe] at hmem
  exact frameSegs_dur_le P code len g hmem

/-- A transmit command refuses, or it transmits a segment list whose durations are in range (R29, R131, R154,
R163, R166). -/
theorem exec_transmits_cases {i : Instr} {s t : State} (hi : transmits i = true) (h : exec i s = .next t) :
    t = refuse s ∨ ∃ segs, (∀ g ∈ segs, g.dur.toNat ≤ 16711425) ∧ t = transmit segs s := by
  cases i
  case emit high low =>
    cases h
    exact .inr ⟨_, pairSegs_dur_le _ _, rfl⟩
  case sendBits len code =>
    simp only [exec, execSendBits] at h
    split at h <;> cases h
    · exact .inl rfl
    · exact .inr ⟨_, sendSegs_dur_le _ _ _ _, rfl⟩
  case sendBin n =>
    simp only [exec, execSendBin] at h
    split at h <;> cases h
    · exact .inl rfl
    · exact .inr ⟨_, sendSegs_dur_le _ _ _ _, rfl⟩
  case sendTri n =>
    simp only [exec, execSendTri] at h
    split at h
    · cases h
      exact .inl rfl
    · split at h <;> cases h
      · exact .inl rfl
      · exact .inr ⟨_, sendSegs_dur_le _ _ _ _, rfl⟩
  all_goals cases hi

/-- PUTSYM refuses, or it writes one cell inside SYM (R160). -/
theorem exec_putSym_cases {index character : Byte} {s t : State} (h : exec (.putSym index character) s = .next t) :
    t = refuse s ∨ index.toNat < Config.symCap ∧ t = accept (writeSym index.toNat character s) := by
  simp only [exec, execPutSym] at h
  split at h <;> cases h
  · exact .inl rfl
  · rename_i hindex
    exact .inr ⟨Nat.lt_of_not_le hindex, rfl⟩

/-- The kinds of next states a command can answer: only the response differs, or one register or cell of the
host's own is written, or the result is cleared, or the TX sequencer starts (R23, R49). -/
inductive CommandEffect (s : State) : State → Prop where
  | answered (ok : Bool) (rsp : Word) : CommandEffect s (respond ok rsp s)
  | protocolSet (index : Byte) : CommandEffect s (accept { s with txProto := clampProto index })
  | repeatSet (n : Byte) : CommandEffect s (accept { s with txRepeat := n })
  | outPinSet (pin : Byte) : CommandEffect s (accept { s with outPin := pin })
  | inPinSet (pin : Byte) : CommandEffect s (accept { s with inPin := pin })
  | toleranceSet (percent : Byte) : CommandEffect s (accept { s with rxTol := percent })
  | symbolWritten (index : Nat) (character : Byte) (inside : index < Config.symCap) :
      CommandEffect s (accept (writeSym index character s))
  | resultCleared : CommandEffect s (accept (clearResult s))
  | transmitted (segs : List Segment) (inRange : ∀ g ∈ segs, g.dur.toNat ≤ 16711425) :
      CommandEffect s (transmit segs s)

/-- Every next state of a command is of one of these kinds. -/
theorem exec_effect {i : Instr} {s t : State} (h : exec i s = .next t) : CommandEffect s t := by
  have sends (hi : transmits i = true) : CommandEffect s t := by
    obtain rfl | ⟨segs, inRange, rfl⟩ := exec_transmits_cases hi h
    · exact .answered false 0
    · exact .transmitted segs inRange
  cases i
  case setProto index => cases h; exact .protocolSet index
  case setRep n => cases h; exact .repeatSet n
  case cfgOut pin => cases h; exact .outPinSet pin
  case cfgIn pin => cases h; exact .inPinSet pin
  case setTol percent => cases h; exact .toleranceSet percent
  case putSym index character =>
    obtain rfl | ⟨inside, rfl⟩ := exec_putSym_cases h
    · exact .answered false 0
    · exact .symbolWritten _ character inside
  case rstAvail => cases h; exact .resultCleared
  case emit | sendBits | sendBin | sendTri => exact sends rfl
  case avail | rdValue | rdLen | rdUnit | rdProto => cases h; exact .answered true _

/-! ### What the shared operations leave alone, group by group (R49) -/

/-- A transmission writes the sequencer and the response: the other groups of registers stay (R23, R134). -/
theorem transmit_frame (segs : List Segment) (s : State) :
    SameConfig s (transmit segs s) ∧ SameResult s (transmit segs s) ∧ SameCapture s (transmit segs s) ∧
      SameTime s (transmit segs s) ∧ (transmit segs s).pt = s.pt ∧ (transmit segs s).inputs = s.inputs := by
  simp [SameConfig, SameResult, SameCapture, SameTime]

/-- TICK writes the sequencer and T: the other groups of registers stay (R136). -/
theorem tick_frame (s : State) :
    SameCapture s (tick s) ∧ SameResult s (tick s) ∧ SameConfig s (tick s) ∧ (tick s).pt = s.pt := by
  simp [SameCapture, SameResult, SameConfig]

/-- EDGE writes the receive side: the other groups of registers stay (R188, R288). -/
theorem edge_frame (s : State) : SameConfig s (edge s) ∧ SameSequencer s (edge s) ∧ (edge s).pt = s.pt := by
  simp [SameConfig, SameSequencer]

/-- No command reaches the capture side, T, the table or the inputs (R49). -/
theorem CommandEffect.frame {s t : State} (h : CommandEffect s t) :
    SameCapture s t ∧ SameTime s t ∧ t.pt = s.pt ∧ t.inputs = s.inputs := by
  cases h with
  | transmitted segs =>
    obtain ⟨-, -, capture, time, table, inputs⟩ := transmit_frame segs s
    exact ⟨capture, time, table, inputs⟩
  | _ => exact ⟨⟨rfl, rfl, rfl, rfl⟩, ⟨rfl, rfl⟩, rfl, rfl⟩

/-! ### The statements of tier 1 -/

/-- Settles O10: the record of the state after reset, with both arrays listed empty. -/
theorem resetValues : Obligations.ResetValues := by
  unfold Obligations.ResetValues
  have unlisted (w i : Nat) : Memory.read ([] : Memory w) i = 0 := rfl
  exact ⟨rfl, rfl, rfl, rfl, rfl, rfl, unlisted 8, rfl, rfl, rfl, rfl, rfl, rfl, unlisted 32, rfl, rfl, rfl, rfl,
    rfl, rfl, rfl⟩

/-- Settles O31, from the laws of the counters and the frame of TICK. -/
theorem tickCountsTime : Obligations.TickCountsTime := by
  intro s
  refine ⟨time_tick s, tick_tcnt s, fun noWrap => ?_, fun wrap => ?_, tick_frame s⟩
  · rw [tick_ovf, if_neg noWrap]
  · rw [tick_ovf, if_pos wrap]

/-- Settles O51, over the kinds of next states of a command. -/
theorem commandsLeaveCaptureAndTime : Obligations.CommandsLeaveCaptureAndTime := by
  intro i s t h
  obtain ⟨capture, time, table, inputs⟩ := (exec_effect h).frame
  exact ⟨capture, time, table, inputs, fun a => by rw [capture.1]⟩

/-- Settles O52: a transmit command refuses or transmits, and either writes no register outside the sequencer. -/
theorem transmitCommandsKeepConfigAndResult : Obligations.TransmitCommandsKeepConfigAndResult := by
  intro i s t hi h
  have frame : SameConfig s t ∧ SameResult s t ∧ SameCapture s t ∧ SameTime s t ∧ t.pt = s.pt ∧ t.inputs = s.inputs := by
    obtain rfl | ⟨segs, -, rfl⟩ := exec_transmits_cases hi h
    · simp [SameConfig, SameResult, SameCapture, SameTime]
    · exact transmit_frame segs s
  have ⟨⟨_, _, _, _, _, sym⟩, _, ⟨tb, _, _, _⟩, _⟩ := frame
  obtain ⟨config, result, capture, time, table, inputs⟩ := frame
  exact ⟨config, result, capture, time, table, inputs, fun a => by rw [sym], fun a => by rw [tb]⟩

end Sys2Proof.Machine
end

section
/-! PROOFS. The invariant of every step (O13): it falls into four parts, one for each group of registers that one
agent owns, and each shared operation keeps the part it writes (R49). -/

namespace Sys2Proof.Machine

/-! ### The invariant, group by group -/

/-- The part of the invariant about the configuration and the table (R21, R28, R122). -/
structure LegalConfig (s : State) : Prop where
  txProto : 1 ≤ s.txProto.toNat ∧ s.txProto.toNat ≤ 6
  sym : s.sym.wf Config.symCap = true
  table : tableOk s.pt = true

/-- The part about the TX sequencer (R29). -/
structure LegalSequencer (s : State) : Prop where
  idle : s.txBusy = false → s.txSegs = [] ∧ s.txRemain = 0
  busy : s.txBusy = true → 1 ≤ s.txRemain.toNat
  remain : s.txRemain.toNat ≤ 16711425
  segs : ∀ g ∈ s.txSegs, g.dur.toNat ≤ 16711425

/-- The part about the capture registers (R33 to R35). -/
structure LegalCapture (s : State) : Prop where
  changeCnt : s.changeCnt.toNat ≤ 67
  fresh : s.changeCnt = 0 → s.tb = [] ∧ s.lastTime = 0 ∧ s.repeatCnt = 0
  repeatCnt : s.repeatCnt.toNat ≤ 1
  tb : s.tb.wf Config.cap = true

/-- The part about the Decoded Result (R39, R41, R231). -/
structure LegalResult (s : State) : Prop where
  cleared : s.resValid = false → s.resValue = 0 ∧ s.resLen = 0 ∧ s.resUnit = 0 ∧ s.resProto = 0
  published : s.resValid = true →
    (1 ≤ s.resProto.toNat ∧ s.resProto.toNat ≤ 6) ∧ (3 ≤ s.resLen.toNat ∧ s.resLen.toNat ≤ 33)

/-- The invariant is its four parts. -/
theorem legalState_iff (s : State) :
    LegalState s ↔ LegalConfig s ∧ LegalSequencer s ∧ LegalCapture s ∧ LegalResult s := by
  constructor
  · intro h
    exact ⟨⟨h.txProto, h.sym, h.table⟩, ⟨h.idle, h.busy, h.remain, h.segs⟩,
      ⟨h.changeCnt, h.fresh, h.repeatCnt, h.tb⟩, ⟨h.cleared, h.published⟩⟩
  · rintro ⟨hc, hs, he, hr⟩
    exact ⟨hc.txProto, hs.idle, hs.busy, hs.remain, hs.segs, he.changeCnt, he.fresh, he.repeatCnt, hr.cleared,
      hr.published, hc.sym, he.tb, hc.table⟩

section Frame
variable {s t : State}

theorem LegalConfig.congr (h : LegalConfig s) (same : SameConfig s t) (table : t.pt = s.pt) : LegalConfig t := by
  obtain ⟨proto, -, -, -, -, sym⟩ := same
  exact ⟨by rw [proto]; exact h.txProto, by rw [sym]; exact h.sym, by rw [table]; exact h.table⟩

theorem LegalSequencer.congr (h : LegalSequencer s) (same : SameSequencer s t) : LegalSequencer t := by
  obtain ⟨-, busy, segs, remain⟩ := same
  exact ⟨by rw [busy, segs, remain]; exact h.idle, by rw [busy, remain]; exact h.busy, by rw [remain]; exact h.remain,
    by rw [segs]; exact h.segs⟩

theorem LegalCapture.congr (h : LegalCapture s) (same : SameCapture s t) : LegalCapture t := by
  obtain ⟨tb, change, rep, last⟩ := same
  exact ⟨by rw [change]; exact h.changeCnt, by rw [change, tb, last, rep]; exact h.fresh, by rw [rep]; exact h.repeatCnt,
    by rw [tb]; exact h.tb⟩

theorem LegalResult.congr (h : LegalResult s) (same : SameResult s t) : LegalResult t := by
  obtain ⟨valid, value, len, unit, proto⟩ := same
  exact ⟨by rw [valid, value, len, unit, proto]; exact h.cleared, by rw [valid, len, proto]; exact h.published⟩

end Frame

/-- The response and the inputs still to come are no part of the invariant. -/
theorem LegalState.withPorts {s : State} (h : LegalState s) (inputs : List Input) (resp : Option Response) :
    LegalState { s with inputs := inputs, resp := resp } :=
  ⟨h.txProto, h.idle, h.busy, h.remain, h.segs, h.changeCnt, h.fresh, h.repeatCnt, h.cleared, h.published, h.sym, h.tb,
    h.table⟩

/-! ### The TX sequencer -/

/-- TxAdvance of a busy sequencer ends consistent: a segment with time left, or nothing left and idle (R133). -/
theorem txAdvance_legalSequencer {s : State} (busy : s.txBusy = true) (remain : s.txRemain.toNat ≤ 16711425)
    (segs : ∀ g ∈ s.txSegs, g.dur.toNat ≤ 16711425) : LegalSequencer (txAdvance s) := by
  unfold txAdvance
  split
  · obtain ⟨-, started⟩ | ⟨pre, g, rest, parts, -, nonzero, started⟩ := startSegs_cases s.out s.txSegs
    · simp only [started]
      exact ⟨fun _ => ⟨rfl, rfl⟩, fun h => by simp [busyAfter] at h, by simp, by simp⟩
    · have stillBusy : busyAfter s.txBusy g.dur rest = true := by
        rw [busyAfter, if_neg fun both => nonzero both.1, busy]
      have positive : g.dur.toNat ≠ 0 := fun e => nonzero (BitVec.eq_of_toNat_eq e)
      simp only [started, stillBusy]
      exact ⟨nofun, fun _ => Nat.one_le_iff_ne_zero.2 positive, segs g (by simp [parts]),
        fun x hx => segs x (by simp [parts, hx])⟩
  · rename_i running
    have positive : s.txRemain.toNat ≠ 0 := fun e => running (BitVec.eq_of_toNat_eq e)
    exact ⟨fun h => by simp [busy] at h, fun _ => Nat.one_le_iff_ne_zero.2 positive, remain, segs⟩

theorem txStart_legalSequencer {segs : List Segment} (inRange : ∀ g ∈ segs, g.dur.toNat ≤ 16711425) (s : State) :
    LegalSequencer (txStart segs s) :=
  txAdvance_legalSequencer rfl (Nat.zero_le _) inRange

theorem transmit_legalSequencer {segs : List Segment} {s : State} (inRange : ∀ g ∈ segs, g.dur.toNat ≤ 16711425)
    (h : LegalSequencer s) : LegalSequencer (transmit segs s) := by
  obtain ⟨-, noPin⟩ | ⟨-, started⟩ := transmit_cases segs s
  · rw [noPin]
    exact h.congr ⟨rfl, rfl, rfl, rfl⟩
  · rw [started]
    exact (txStart_legalSequencer inRange s).congr ⟨rfl, rfl, rfl, rfl⟩

theorem txCount_legalSequencer {s : State} (h : LegalSequencer s) : LegalSequencer (txCount s) := by
  unfold txCount
  split
  · rename_i busy
    have positive := h.busy busy
    have bound := h.remain
    refine txAdvance_legalSequencer busy ?_ h.segs
    show (s.txRemain - 1).toNat ≤ 16711425
    bv_omega
  · exact h

theorem tick_legalSequencer {s : State} (h : LegalSequencer s) : LegalSequencer (tick s) :=
  txCount_legalSequencer (h.congr ⟨rfl, rfl, rfl, rfl⟩)

/-! ### The Decoded Result -/

/-- A publish sets the valid bit with an index from 1 to 6 and a length from 3 to 33, where at most 67 edges were
recorded (R39, R41). -/
theorem coord_legalResult {E : Nat} {s : State} (edges : E ≤ 67) (h : LegalResult s) : LegalResult (coord E s) := by
  obtain same | ⟨p, r, low, high, decoded, published⟩ := coord_cases E s
  · rw [same]
    exact h
  · obtain ⟨guard, len, proto, -, -⟩ := tryDecode_some decoded
    rw [published]
    refine ⟨nofun, fun _ => ⟨?_, ?_⟩⟩
    · rw [publish_resProto, proto, BitVec.toNat_ofNat]
      omega
    · rw [publish_resLen, len, BitVec.toNat_ofNat]
      omega

theorem countGap_legalResult {s : State} (edges : s.changeCnt.toNat ≤ 67) (h : LegalResult s) :
    LegalResult (countGap s) := by
  unfold countGap
  split
  · exact (coord_legalResult edges h).congr ⟨rfl, rfl, rfl, rfl, rfl⟩
  · exact h.congr ⟨rfl, rfl, rfl, rfl, rfl⟩

theorem gapLogic_legalResult {d : Word} {s : State} (edges : s.changeCnt.toNat ≤ 67) (h : LegalResult s) :
    LegalResult (gapLogic d s) := by
  unfold gapLogic
  split
  · split
    · exact (countGap_legalResult edges h).congr ⟨rfl, rfl, rfl, rfl, rfl⟩
    · exact h.congr ⟨rfl, rfl, rfl, rfl, rfl⟩
  · exact h

/-! ### The capture registers -/

/-- A second count returns REPEAT_CNT to 0, so it never stands at 2 between steps (R35, R185). -/
theorem countGap_repeatCnt_le {s : State} (h : s.repeatCnt.toNat ≤ 1) : (countGap s).repeatCnt.toNat ≤ 1 := by
  unfold countGap
  split
  · exact Nat.zero_le 1
  · rename_i notSecond
    show (s.repeatCnt + 1).toNat ≤ 1
    bv_omega

theorem gapLogic_repeatCnt_le {d : Word} {s : State} (h : s.repeatCnt.toNat ≤ 1) :
    (gapLogic d s).repeatCnt.toNat ≤ 1 := by
  unfold gapLogic
  split
  · split
    · exact countGap_repeatCnt_le h
    · exact Nat.zero_le 1
  · exact h

theorem fullCheck_repeatCnt_le {s : State} (h : s.repeatCnt.toNat ≤ 1) : (fullCheck s).repeatCnt.toNat ≤ 1 := by
  unfold fullCheck
  split
  · exact Nat.zero_le 1
  · exact h

/-- An edge recorded where the buffer has room: the index counts to at most 67 and is 0 no more (R34, R187). -/
theorem recordEdge_legalCapture {d : Word} {s : State} (room : s.changeCnt.toNat < 67) (rep : s.repeatCnt.toNat ≤ 1)
    (tb : s.tb.wf Config.cap = true) : LegalCapture (recordEdge d s) := by
  have counted : (s.changeCnt + 1).toNat = s.changeCnt.toNat + 1 := by bv_omega
  refine ⟨?_, fun zero => ?_, rep, memory_write_wf room tb⟩
  · rw [recordEdge_changeCnt, counted]
    omega
  · rw [recordEdge_changeCnt] at zero
    rw [zero] at counted
    cases counted

/-- EDGE keeps the two parts it writes. -/
theorem edge_legalCapture_legalResult {s : State} (capture : LegalCapture s) (result : LegalResult s) :
    LegalCapture (edge s) ∧ LegalResult (edge s) := by
  unfold edge
  split
  · exact ⟨capture, result⟩
  · constructor
    · refine recordEdge_legalCapture (fullCheck_changeCnt_lt _)
        (fullCheck_repeatCnt_le (gapLogic_repeatCnt_le capture.repeatCnt)) ?_
      simpa using capture.tb
    · exact (gapLogic_legalResult (d := edgeDuration s) capture.changeCnt result).congr (by simp [SameResult])

/-! ### Every kind of step -/

theorem tick_legalState {s : State} (h : LegalState s) : LegalState (tick s) := by
  rw [legalState_iff] at h ⊢
  obtain ⟨config, sequencer, capture, result⟩ := h
  obtain ⟨sameCapture, sameResult, sameConfig, sameTable⟩ := tick_frame s
  exact ⟨config.congr sameConfig sameTable, tick_legalSequencer sequencer, capture.congr sameCapture,
    result.congr sameResult⟩

theorem edge_legalState {s : State} (h : LegalState s) : LegalState (edge s) := by
  rw [legalState_iff] at h ⊢
  obtain ⟨config, sequencer, capture, result⟩ := h
  obtain ⟨sameConfig, sameSequencer, sameTable⟩ := edge_frame s
  exact ⟨config.congr sameConfig sameTable, sequencer.congr sameSequencer,
    edge_legalCapture_legalResult capture result⟩

theorem transmit_legalState {segs : List Segment} {s : State} (inRange : ∀ g ∈ segs, g.dur.toNat ≤ 16711425)
    (h : LegalState s) : LegalState (transmit segs s) := by
  rw [legalState_iff] at h ⊢
  obtain ⟨config, sequencer, capture, result⟩ := h
  obtain ⟨sameConfig, sameResult, sameCapture, -, sameTable, -⟩ := transmit_frame segs s
  exact ⟨config.congr sameConfig sameTable, transmit_legalSequencer inRange sequencer, capture.congr sameCapture,
    result.congr sameResult⟩

/-- RST leads to a legal state from any state whose table is legal (R48, R125). -/
theorem resetAll_legalState {s : State} (table : tableOk s.pt = true) : LegalState (resetAll s) :=
  (legalState_iff _).2
    ⟨⟨(by decide : 1 ≤ Config.protoDefault.toNat ∧ Config.protoDefault.toNat ≤ 6), rfl, table⟩,
      ⟨fun _ => ⟨rfl, rfl⟩, nofun, Nat.zero_le _, nofun⟩,
      ⟨Nat.zero_le _, fun _ => ⟨rfl, rfl, rfl⟩, Nat.zero_le _, rfl⟩,
      ⟨fun _ => ⟨rfl, rfl, rfl, rfl⟩, nofun⟩⟩

/-- The index SETPROTO stores is 1 to 6, whatever its operand (R21, R150). -/
theorem clampProto_range (index : Byte) : 1 ≤ (clampProto index).toNat ∧ (clampProto index).toNat ≤ 6 := by
  unfold clampProto
  split
  · rename_i valid
    obtain ⟨low, high⟩ : 1 ≤ index.toNat ∧ index.toNat ≤ 6 := valid
    rw [BitVec.toNat_setWidth]
    omega
  · decide

theorem CommandEffect.keeps_legalState {s t : State} (effect : CommandEffect s t) (h : LegalState s) : LegalState t := by
  cases effect with
  | transmitted segs inRange => exact transmit_legalState inRange h
  | protocolSet index => exact { h with txProto := clampProto_range index }
  | symbolWritten index character inside => exact { h with sym := memory_write_wf inside h.sym }
  | resultCleared => exact { h with cleared := fun _ => ⟨rfl, rfl, rfl, rfl⟩, published := nofun }
  | answered | repeatSet | outPinSet | inPinSet | toleranceSet => exact { h with }

/-- Settles O13, over the kinds of steps: TICK, EDGE, RST, a command, and an illegal word. -/
theorem everyStepKeepsLegalState : Obligations.EveryStepKeepsLegalState := by
  intro s t h hstep
  have taken : LegalState { s with inputs := (turn s).2 } := h.withPorts (turn s).2 s.resp
  obtain ⟨-, rfl⟩ | ⟨-, rfl⟩ | ⟨-, rfl⟩ | ⟨-, i, -, -, -, hexec⟩ | ⟨-, -, -, -, -, rfl⟩ := step_cases hstep
  case inl => exact (tick_legalState taken).withPorts _ none
  case inr.inl => exact (edge_legalState taken).withPorts _ none
  case inr.inr.inl => exact resetAll_legalState h.table
  case inr.inr.inr.inl => exact (exec_effect hexec).keeps_legalState taken
  case inr.inr.inr.inr => exact h.withPorts _ _

end Sys2Proof.Machine
end

section
/-! PROOFS. The identity of a configured pin has no effect (O19): the block asks of OUT_PIN and IN_PIN only whether
they are PIN_NONE, so every operation carries a change of the two registers along (R24, R25). -/

namespace Sys2Proof.Machine

/-- The state with other contents of OUT_PIN and IN_PIN, and all else alike. -/
def withPins (out inp : Byte) (s : State) : State := { s with outPin := out, inPin := inp }

section Pins
variable {out inp : Byte} {s : State}

/-! The registers that conditions of the operations read. -/

@[simp] theorem withPins_outPin : (withPins out inp s).outPin = out := rfl
@[simp] theorem withPins_inPin : (withPins out inp s).inPin = inp := rfl
@[simp] theorem withPins_sym : (withPins out inp s).sym = s.sym := rfl
@[simp] theorem withPins_tb : (withPins out inp s).tb = s.tb := rfl
@[simp] theorem withPins_changeCnt : (withPins out inp s).changeCnt = s.changeCnt := rfl
@[simp] theorem withPins_repeatCnt : (withPins out inp s).repeatCnt = s.repeatCnt := rfl

/-! ### The transmit side -/

theorem txAdvance_withPins : txAdvance (withPins out inp s) = withPins out inp (txAdvance s) := by
  unfold txAdvance
  rw [apply_ite (withPins out inp)]
  rfl

theorem txStart_withPins (segs : List Segment) :
    txStart segs (withPins out inp s) = withPins out inp (txStart segs s) :=
  txAdvance_withPins (s := { s with txSegs := segs, txRemain := 0, txBusy := true })

theorem txCount_withPins : txCount (withPins out inp s) = withPins out inp (txCount s) := by
  have advanced := txAdvance_withPins (out := out) (inp := inp) (s := { s with txRemain := s.txRemain - 1 })
  unfold txCount
  rw [apply_ite (withPins out inp), ← advanced]
  rfl

theorem tick_withPins : tick (withPins out inp s) = withPins out inp (tick s) :=
  txCount_withPins (s := countTime s)

/-- A transmission asks of OUT_PIN only whether a pin is configured (R24, R131). -/
theorem transmit_withPins (configured : out = Config.pinNone ↔ s.outPin = Config.pinNone) (segs : List Segment) :
    transmit segs (withPins out inp s) = withPins out inp (transmit segs s) := by
  unfold transmit
  simp only [withPins_outPin, configured, txStart_withPins]
  split <;> rfl

theorem sendCode_withPins (configured : out = Config.pinNone ↔ s.outPin = Config.pinNone) (code : Word) (len : Nat) :
    sendCode code len (withPins out inp s) = withPins out inp (sendCode code len s) :=
  transmit_withPins configured _

theorem next_sendCode_withPins {code : Word} {len : Nat} {t : State}
    (configured : out = Config.pinNone ↔ s.outPin = Config.pinNone)
    (h : (.next (sendCode code len s) : Host.Outcome State Fault Refusal) = .next t) :
    (.next (sendCode code len (withPins out inp s)) : Host.Outcome State Fault Refusal) = .next (withPins out inp t) := by
  cases h
  rw [sendCode_withPins configured]

/-- A range check in front of a command carries the change along if the accepted operands do. -/
theorem refuseIf_withPins {c : Prop} [Decidable c] {o o' : Host.Outcome State Fault Refusal} {t : State}
    (h : (if c then .next (refuse s) else o) = .next t) (accepted : o = .next t → o' = .next (withPins out inp t)) :
    (if c then .next (refuse (withPins out inp s)) else o') = .next (withPins out inp t) := by
  by_cases outOfRange : c
  · rw [if_pos outOfRange] at h ⊢
    cases h
    rfl
  · rw [if_neg outOfRange] at h ⊢
    exact accepted h

/-- A command that sets neither pin carries the change along (R24, R25). -/
theorem exec_withPins {i : Instr} {t : State} (configured : out = Config.pinNone ↔ s.outPin = Config.pinNone)
    (notOut : ∀ x, i ≠ .cfgOut x) (notIn : ∀ x, i ≠ .cfgIn x) (h : exec i s = .next t) :
    exec i (withPins out inp s) = .next (withPins out inp t) := by
  cases i
  case cfgOut x => exact absurd rfl (notOut x)
  case cfgIn x => exact absurd rfl (notIn x)
  case emit high low =>
    cases h
    exact congrArg _ (transmit_withPins configured _)
  case sendBits len code => exact refuseIf_withPins h (next_sendCode_withPins configured)
  case sendBin n => exact refuseIf_withPins h (next_sendCode_withPins configured)
  case sendTri n =>
    refine refuseIf_withPins h fun accepted => ?_
    rw [withPins_sym]
    cases symbols : triCode s.sym n.toNat with
    | none =>
      rw [symbols] at accepted
      cases accepted
      rfl
    | some code =>
      rw [symbols] at accepted
      exact next_sendCode_withPins configured accepted
  case putSym index character =>
    refine refuseIf_withPins h fun accepted => ?_
    cases accepted
    rfl
  case setProto | setRep | setTol | avail | rstAvail | rdValue | rdLen | rdUnit | rdProto =>
    cases h
    rfl

/-! ### The receive side -/

theorem firstDecode_withPins (E : Nat) (l : List Nat) : firstDecode E (withPins out inp s) l = firstDecode E s l := by
  induction l with
  | nil => rfl
  | cons p rest ih =>
    have sameTry : tryDecode p E (withPins out inp s) = tryDecode p E s := rfl
    simp only [firstDecode, sameTry, ih]

theorem coord_withPins (E : Nat) : coord E (withPins out inp s) = withPins out inp (coord E s) := by
  unfold coord
  simp only [firstDecode_withPins]
  split <;> rfl

theorem countGap_withPins : countGap (withPins out inp s) = withPins out inp (countGap s) := by
  unfold countGap
  simp only [withPins_repeatCnt, withPins_changeCnt, coord_withPins]
  split <;> rfl

theorem gapLogic_withPins (d : Word) : gapLogic d (withPins out inp s) = withPins out inp (gapLogic d s) := by
  unfold gapLogic
  simp only [withPins_tb, countGap_withPins]
  split
  · split <;> rfl
  · rfl

theorem fullCheck_withPins : fullCheck (withPins out inp s) = withPins out inp (fullCheck s) := by
  unfold fullCheck
  rw [apply_ite (withPins out inp)]
  rfl

/-- EDGE asks of IN_PIN only whether a pin is configured (R25, R182). -/
theorem edge_withPins (configured : inp = Config.pinNone ↔ s.inPin = Config.pinNone) :
    edge (withPins out inp s) = withPins out inp (edge s) := by
  have sameDuration : edgeDuration (withPins out inp s) = edgeDuration s := rfl
  unfold edge
  simp only [withPins_inPin, configured, sameDuration, gapLogic_withPins, fullCheck_withPins]
  split <;> rfl

end Pins

/-! ### One pin at a time: the other is written back as it stands -/

theorem withPins_eq_outPin {inp : Byte} {t : State} (h : t.inPin = inp) (out : Byte) :
    withPins out inp t = { t with outPin := out } := by
  subst h
  rfl

theorem withPins_eq_inPin {out : Byte} {t : State} (h : t.outPin = out) (inp : Byte) :
    withPins out inp t = { t with inPin := inp } := by
  subst h
  rfl

/-- A command that sets neither pin leaves both as they are: it carries along even the change that is none. -/
theorem exec_pins {i : Instr} {s t : State} (notOut : ∀ x, i ≠ .cfgOut x) (notIn : ∀ x, i ≠ .cfgIn x)
    (h : exec i s = .next t) : t.outPin = s.outPin ∧ t.inPin = s.inPin := by
  have carried : exec i s = .next (withPins s.outPin s.inPin t) := exec_withPins (s := s) Iff.rfl notOut notIn h
  rw [h] at carried
  injection carried with same
  rw [same]
  exact ⟨rfl, rfl⟩

theorem exec_other_outPin {i : Instr} {s t : State} {q : Byte}
    (configured : q = Config.pinNone ↔ s.outPin = Config.pinNone) (notOut : ∀ x, i ≠ .cfgOut x)
    (h : exec i s = .next t) : exec i { s with outPin := q } = .next { t with outPin := q } := by
  by_cases setsIn : ∃ x, i = .cfgIn x
  · obtain ⟨x, rfl⟩ := setsIn
    cases h
    rfl
  · have notIn : ∀ x, i ≠ .cfgIn x := fun x e => setsIn ⟨x, e⟩
    rw [← withPins_eq_outPin rfl, ← withPins_eq_outPin (exec_pins notOut notIn h).2]
    exact exec_withPins configured notOut notIn h

theorem exec_other_inPin {i : Instr} {s t : State} {q : Byte} (notIn : ∀ x, i ≠ .cfgIn x) (h : exec i s = .next t) :
    exec i { s with inPin := q } = .next { t with inPin := q } := by
  by_cases setsOut : ∃ x, i = .cfgOut x
  · obtain ⟨x, rfl⟩ := setsOut
    cases h
    rfl
  · have notOut : ∀ x, i ≠ .cfgOut x := fun x e => setsOut ⟨x, e⟩
    rw [← withPins_eq_inPin rfl, ← withPins_eq_inPin (exec_pins notOut notIn h).1]
    exact exec_withPins Iff.rfl notOut notIn h

/-- Settles O19: each operation carries the change of one pin along, where the pin is configured before and after. -/
theorem pinIdentityHasNoEffect : Obligations.PinIdentityHasNoEffect := by
  intro s p q hp hq
  constructor
  · intro outPin
    have configured : q = Config.pinNone ↔ s.outPin = Config.pinNone := iff_of_false hq (outPin ▸ hp)
    refine ⟨fun i t notOut h => exec_other_outPin configured notOut h, fun x => rfl, ?_, ?_⟩
    · rw [← withPins_eq_outPin rfl, edge_withPins Iff.rfl, withPins_eq_outPin (edge_inPin s)]
    · rw [← withPins_eq_outPin rfl, tick_withPins, withPins_eq_outPin (tick_inPin s)]
  · intro inPin
    have configured : q = Config.pinNone ↔ s.inPin = Config.pinNone := iff_of_false hq (inPin ▸ hp)
    refine ⟨fun i t notIn h => exec_other_inPin notIn h, fun x => rfl, ?_, ?_⟩
    · rw [← withPins_eq_inPin rfl, edge_withPins configured, withPins_eq_inPin (edge_outPin s)]
    · rw [← withPins_eq_inPin rfl, tick_withPins, withPins_eq_inPin (tick_outPin s)]

end Sys2Proof.Machine
end

section
/-! PROOFS. The encoding (30_encoding.md): a word and its fields carry the same data, a format's must-be-zero rule and
its mask say the same, and the sixteen opcodes differ, so decoder, encoder and opcode map agree (O1, O2, O3). -/

namespace Sys2Proof

/-! ### A word is its fields (R90) -/

theorem fieldsOf_wordOf (f : CmdFields) : fieldsOf (wordOf f) = f := by
  have op : (wordOf f).extractLsb' 40 8 = f.op := BitVec.extractLsb'_append_eq_left
  have a : (wordOf f).extractLsb' 32 8 = f.a := by
    rw [wordOf, BitVec.extractLsb'_append_eq_of_add_le (by omega), BitVec.extractLsb'_append_eq_left]
  have d : (wordOf f).extractLsb' 0 32 = f.d := by
    rw [wordOf, BitVec.extractLsb'_append_eq_of_add_le (by omega), BitVec.extractLsb'_append_eq_right]
  simp only [fieldsOf, op, a, d]

theorem wordOf_fieldsOf (w : CmdWord) : wordOf (fieldsOf w) = w := by
  have operands : (fieldsOf w).a ++ (fieldsOf w).d = w.extractLsb' 0 40 :=
    BitVec.extractLsb'_append_extractLsb'_eq_extractLsb' rfl
  rw [wordOf, operands]
  exact BitVec.extractLsb'_append_extractLsb'

theorem fieldsOf_inj {w w' : CmdWord} : fieldsOf w = fieldsOf w' ↔ w = w' :=
  ⟨fun h => by rw [← wordOf_fieldsOf w, h, wordOf_fieldsOf], congrArg fieldsOf⟩

theorem fieldsOf_and (w m : CmdWord) :
    fieldsOf (w &&& m) =
      ⟨(fieldsOf w).op &&& (fieldsOf m).op, (fieldsOf w).a &&& (fieldsOf m).a, (fieldsOf w).d &&& (fieldsOf m).d⟩ := by
  simp only [fieldsOf, BitVec.extractLsb'_and]

/-! ### The long operand is its upper bits and its low byte (R90) -/

theorem CmdFields.d_eq (f : CmdFields) : f.d = f.dHigh ++ f.b :=
  (BitVec.extractLsb'_append_extractLsb' (w := 24) (len := 8)).symm

theorem append_eq_zero_iff {v w : Nat} {x : BitVec v} {y : BitVec w} : x ++ y = 0#(v + w) ↔ x = 0#v ∧ y = 0#w := by
  constructor
  · intro h
    have left := BitVec.extractLsb'_append_eq_left (a := x) (b := y)
    have right := BitVec.extractLsb'_append_eq_right (a := x) (b := y)
    rw [h, BitVec.extractLsb'_zero] at left right
    exact ⟨left.symm, right.symm⟩
  · rintro ⟨rfl, rfl⟩
    exact BitVec.zero_append_zero

theorem CmdFields.d_eq_zero_iff (f : CmdFields) : f.d = 0#32 ↔ f.dHigh = 0#24 ∧ f.b = 0#8 := by
  rw [f.d_eq]
  exact append_eq_zero_iff

/-- The mask of the upper bits of `d` (R93, formats AB). -/
theorem CmdFields.d_and_high_eq_zero_iff (f : CmdFields) : f.d &&& 0xFFFFFF00#32 = 0#32 ↔ f.dHigh = 0#24 := by
  have mask : 0xFFFFFF00#32 = BitVec.allOnes 24 ++ 0#8 := by decide
  rw [f.d_eq, mask, BitVec.and_append, BitVec.and_allOnes, BitVec.and_zero]
  exact append_eq_zero_iff.trans (and_iff_left rfl)

theorem zeroExtend_eq_zero_append {v w : Nat} (y : BitVec w) : y.zeroExtend (v + w) = 0#v ++ y := by
  apply BitVec.eq_of_toNat_eq
  have small : y.toNat < 2 ^ (v + w) := y.isLt.trans_le (Nat.pow_le_pow_right (by omega) (by omega))
  simp [BitVec.toNat_append, Nat.mod_eq_of_lt small]

theorem CmdFields.d_eq_low_of_dHigh {f : CmdFields} (h : f.dHigh = 0#24) : f.d = f.b.zeroExtend 32 := by
  rw [f.d_eq, h]
  exact (zeroExtend_eq_zero_append f.b).symm

/-! ### The formats: must-be-zero rule, mask and operands say the same (R92, R93) -/

/-- The fields of the mask a format has in the opcode map: the opcode and every unused field (R93). -/
def Format.maskFields : Format → CmdFields
  | .n => ⟨0xFF, 0xFF, 0xFFFFFFFF⟩
  | .a => ⟨0xFF, 0x00, 0xFFFFFFFF⟩
  | .ab => ⟨0xFF, 0x00, 0xFFFFFF00⟩
  | .ad => ⟨0xFF, 0x00, 0x00000000⟩

/-- The fields with every field the format does not use cleared (R92). -/
def Format.cleared (fmt : Format) (f : CmdFields) : CmdFields :=
  match fmt with
  | .n => ⟨f.op, 0, 0⟩
  | .a => ⟨f.op, f.a, 0⟩
  | .ab => ⟨f.op, f.a, f.b.zeroExtend 32⟩
  | .ad => f

theorem Format.admits_n (f : CmdFields) : Format.n.admits f = true ↔ f.a = 0#8 ∧ f.d = 0#32 := by
  simp [Format.admits, f.d_eq_zero_iff, and_assoc]

theorem Format.admits_a (f : CmdFields) : Format.a.admits f = true ↔ f.d = 0#32 := by
  simp [Format.admits, f.d_eq_zero_iff]

theorem Format.admits_ab (f : CmdFields) : Format.ab.admits f = true ↔ f.dHigh = 0#24 := by
  simp [Format.admits]

theorem Format.admits_ad (f : CmdFields) : Format.ad.admits f = true := rfl

theorem Format.admits_iff_mask (fmt : Format) (f : CmdFields) :
    fmt.admits f = true ↔ f.a &&& fmt.maskFields.a = 0#8 ∧ f.d &&& fmt.maskFields.d = 0#32 := by
  have wholeByte : f.a &&& 0xFF#8 = f.a := BitVec.and_allOnes
  have wholeWord : f.d &&& 0xFFFFFFFF#32 = f.d := BitVec.and_allOnes
  cases fmt
  case n => simp [admits_n, maskFields, wholeByte, wholeWord]
  case a => simp [admits_a, maskFields, wholeWord]
  case ab => simp [admits_ab, maskFields, f.d_and_high_eq_zero_iff]
  case ad => simp [admits_ad, maskFields]

theorem Format.cleared_of_admits {fmt : Format} {f : CmdFields} (h : fmt.admits f = true) : fmt.cleared f = f := by
  cases fmt with
  | n =>
    obtain ⟨a, d⟩ := (admits_n f).mp h
    exact congrArg₂ (CmdFields.mk f.op) a.symm d.symm
  | a => exact congrArg (CmdFields.mk f.op f.a) ((admits_a f).mp h).symm
  | ab => exact congrArg (CmdFields.mk f.op f.a) (CmdFields.d_eq_low_of_dHigh ((admits_ab f).mp h)).symm
  | ad => rfl

/-! ### The rows of the opcode map (R93) -/

/-- The opcodes differ, so an opcode has at most one row. -/
theorem opcodeMap_op_inj {r r' : OpcodeRow} (hr : r ∈ opcodeMap) (hr' : r' ∈ opcodeMap) (h : r.op = r'.op) : r = r' :=
  have distinct : (opcodeMap.map OpcodeRow.op).Nodup := by decide
  List.inj_on_of_nodup_map distinct hr hr' h

/-- The table's numbers of a row are its opcode, and its format's mask. -/
theorem opcodeMap_numbers : ∀ r ∈ opcodeMap, fieldsOf r.mtch = ⟨r.op, 0, 0⟩ ∧ fieldsOf r.mask = r.format.maskFields := by
  decide

/-- Encoding what a row builds gives the fields back, but for those the row does not use. -/
theorem encodeFields_build :
    ∀ r ∈ opcodeMap, ∀ f : CmdFields, f.op = r.op → encodeFields (r.build f) = r.format.cleared f := by
  intro r hr ⟨op, a, d⟩ hop
  cases hop
  fin_cases hr <;> rfl

/-- A row matches a word by `w AND mask = match` exactly when the word has the row's opcode and the row's format
admits its fields (R92, R93). -/
theorem OpcodeRow.matches_iff {r : OpcodeRow} (hr : r ∈ opcodeMap) (w : CmdWord) :
    r.matches w = true ↔ (fieldsOf w).op = r.op ∧ r.format.admits (fieldsOf w) = true := by
  obtain ⟨mtch, mask⟩ := opcodeMap_numbers r hr
  have opMask : (fieldsOf w).op &&& r.format.maskFields.op = (fieldsOf w).op := by
    cases r.format <;> exact BitVec.and_allOnes
  rw [OpcodeRow.matches, beq_iff_eq, ← fieldsOf_inj, fieldsOf_and, mtch, mask, opMask, CmdFields.mk.injEq,
    Format.admits_iff_mask]
  exact Iff.rfl

/-! ### The decoder, once (R94) -/

/-- A word with a row's opcode is decoded by that row. -/
theorem decode_of_row {r : OpcodeRow} {w : CmdWord} (hr : r ∈ opcodeMap) (hop : (fieldsOf w).op = r.op) :
    decode w = if r.format.admits (fieldsOf w) then .ok (r.build (fieldsOf w)) else .error .unusedFieldNonzero := by
  unfold decode
  cases found : opcodeMap.find? (fun r => r.op == (fieldsOf w).op) with
  | none => exact absurd (List.find?_eq_none.mp found r hr) (by simp [hop])
  | some r' =>
    have hop' : r'.op = (fieldsOf w).op := by simpa using List.find?_some found
    rw [opcodeMap_op_inj (List.mem_of_find?_eq_some found) hr (hop'.trans hop)]

/-- A word with no row's opcode is a reserved one (R95). -/
theorem decode_of_no_row {w : CmdWord} (h : ∀ r ∈ opcodeMap, (fieldsOf w).op ≠ r.op) :
    decode w = .error .reservedOpcode := by
  have notFound : opcodeMap.find? (fun r => r.op == (fieldsOf w).op) = none :=
    List.find?_eq_none.mpr fun r hr same => h r hr (beq_iff_eq.mp same).symm
  rw [decode, notFound]

/-- The legal words: those a row of the opcode map matches, each decoded by that row (R93, R94). -/
theorem decode_eq_ok_iff {w : CmdWord} {i : Instr} :
    decode w = .ok i ↔ ∃ r ∈ opcodeMap, r.matches w = true ∧ i = r.build (fieldsOf w) := by
  constructor
  · intro h
    by_cases hrow : ∃ r ∈ opcodeMap, (fieldsOf w).op = r.op
    · obtain ⟨r, hr, hop⟩ := hrow
      rw [decode_of_row hr hop] at h
      split at h
      case isTrue admits =>
        cases h
        exact ⟨r, hr, (OpcodeRow.matches_iff hr w).mpr ⟨hop, admits⟩, rfl⟩
      case isFalse => cases h
    · rw [decode_of_no_row fun r hr hop => hrow ⟨r, hr, hop⟩] at h
      cases h
  · rintro ⟨r, hr, hmatch, rfl⟩
    obtain ⟨hop, admits⟩ := (OpcodeRow.matches_iff hr w).mp hmatch
    rw [decode_of_row hr hop, if_pos admits]

theorem decode_eq_error_of_no_match {w : CmdWord} (h : ∀ r ∈ opcodeMap, r.matches w = false) :
    ∃ e, decode w = .error e := by
  cases hd : decode w with
  | error e => exact ⟨e, rfl⟩
  | ok i =>
    obtain ⟨r, hr, hmatch, -⟩ := decode_eq_ok_iff.mp hd
    rw [h r hr] at hmatch
    cases hmatch

namespace Laws

/-- Every command's word has the shape of the command's row. -/
theorem encodedWord_statement (i : Instr) : EncodedWord.Statement i :=
  match i with
  | .setProto index => EncodedWord.setProto index
  | .setRep n => EncodedWord.setRep n
  | .cfgOut pin => EncodedWord.cfgOut pin
  | .cfgIn pin => EncodedWord.cfgIn pin
  | .setTol percent => EncodedWord.setTol percent
  | .emit high low => EncodedWord.emit high low
  | .sendBits bitLength codeValue => EncodedWord.sendBits bitLength codeValue
  | .putSym index character => EncodedWord.putSym index character
  | .sendBin n => EncodedWord.sendBin n
  | .sendTri n => EncodedWord.sendTri n
  | .avail => EncodedWord.avail
  | .rstAvail => EncodedWord.rstAvail
  | .rdValue => EncodedWord.rdValue
  | .rdLen => EncodedWord.rdLen
  | .rdUnit => EncodedWord.rdUnit
  | .rdProto => EncodedWord.rdProto

end Laws

/-! ### The statements -/

/-- Settles O1: the word's fields are those of the command, and the row of its opcode builds the command from them. -/
theorem decodeOfEncode : Obligations.DecodeOfEncode := by
  intro i
  obtain ⟨admits, r, hr, hop, hformat, hbuild⟩ := Laws.encodedWord_statement i
  have fields : fieldsOf (encode i) = encodeFields i := fieldsOf_wordOf _
  rw [decode_of_row hr (by rw [fields, hop]), fields, hformat, if_pos admits, hbuild]

/-- Settles O2: the row clears the fields it does not use, and in a word it matches these are zero already. -/
theorem encodeOfDecode : Obligations.EncodeOfDecode := by
  intro w i h
  obtain ⟨r, hr, hmatch, rfl⟩ := decode_eq_ok_iff.mp h
  obtain ⟨hop, admits⟩ := (OpcodeRow.matches_iff hr w).mp hmatch
  rw [encode, encodeFields_build r hr _ hop, Format.cleared_of_admits admits, wordOf_fieldsOf]

/-- Settles O3: a match fixes the opcode, and the opcodes differ. -/
theorem decodingFollowsTheOpcodeMap : Obligations.DecodingFollowsTheOpcodeMap := by
  refine ⟨fun w r hr hmatch => decode_eq_ok_iff.mpr ⟨r, hr, hmatch, rfl⟩, ?_, fun w => decode_eq_error_of_no_match⟩
  intro w r r' hr hr' hmatch hmatch'
  obtain ⟨hop, -⟩ := (OpcodeRow.matches_iff hr w).mp hmatch
  obtain ⟨hop', -⟩ := (OpcodeRow.matches_iff hr' w).mp hmatch'
  exact opcodeMap_op_inj hr hr' (hop.symm.trans hop')

end Sys2Proof
end

section
/-! PROOFS. The statements about the command port: what a step does with a legal and with an illegal word, and which
response each command gives (O5, O6, O50). -/

namespace Sys2Proof.Machine

/-! ### The step that takes a word (R94, R95, R137) -/

/-- A word presented to an idle block is handled as HostCmd of the state without that input. -/
theorem step_of_cmd {s : State} {w : CmdWord} {rest : List Input} (hinputs : s.inputs = .cmd w :: rest)
    (idle : s.txBusy = false) : step s = hostCmd w { s with inputs := rest } :=
  step_of_turn (turn_cmd hinputs idle)

theorem hostCmd_of_ok {w : CmdWord} {i : Instr} (h : decode w = .ok i) (s : State) : hostCmd w s = exec i s := by
  rw [hostCmd, h]

theorem hostCmd_of_error {w : CmdWord} {e : DecodeError} (h : decode w = .error e) (s : State) :
    hostCmd w s = .next (refuse s) := by
  rw [hostCmd, h]

/-! ### The response of a command (R91) -/

/-- A command that is a read answers OK = 1 with a value and changes nothing else; any other command is refused, or
answers (1, 0). -/
theorem exec_response {i : Instr} {s t : State} (h : exec i s = .next t) :
    (isRead i = true ∧ ∃ value, t = respond true value s) ∨
    (isRead i = false ∧ (t = refuse s ∨ t.resp = some ⟨true, 0⟩)) := by
  have sends (hi : transmits i = true) : t = refuse s ∨ t.resp = some ⟨true, 0⟩ := by
    obtain refused | ⟨segs, -, rfl⟩ := exec_transmits_cases hi h
    · exact .inl refused
    · exact .inr (transmit_resp segs s)
  cases i
  case avail | rdValue | rdLen | rdUnit | rdProto => cases h; exact .inl ⟨rfl, _, rfl⟩
  case setProto | setRep | cfgOut | cfgIn | setTol | rstAvail => cases h; exact .inr ⟨rfl, .inr rfl⟩
  case emit | sendBits | sendBin | sendTri => exact .inr ⟨rfl, sends rfl⟩
  case putSym =>
    obtain refused | ⟨-, rfl⟩ := exec_putSym_cases h
    · exact .inr ⟨rfl, .inl refused⟩
    · exact .inr ⟨rfl, .inr rfl⟩

/-! ### The statements -/

/-- Settles O50, over the responses of reads, refusals and the other commands. -/
theorem responsesOfCommands : Obligations.ResponsesOfCommands := by
  intro i s t h
  obtain ⟨read, value, rfl⟩ | ⟨-, rfl | accepted⟩ := exec_response h
  · exact ⟨⟨true, value⟩, rfl, fun notRead => absurd (read.symm.trans notRead) (by decide), nofun⟩
  · exact ⟨⟨false, 0⟩, rfl, fun _ => rfl, fun _ => rfl⟩
  · exact ⟨⟨true, 0⟩, accepted, fun _ => rfl, nofun⟩

/-- Settles O5: the word's turn comes, and HostCmd of a legal word is its command. -/
theorem stepRunsTheDecodedCommand : Obligations.StepRunsTheDecodedCommand := by
  intro s w rest i hinputs idle legal
  rw [step_of_cmd hinputs idle, hostCmd_of_ok legal]

/-- Settles O6: a word without a row does not decode, and HostCmd refuses it. -/
theorem illegalCommandChangesNothing : Obligations.IllegalCommandChangesNothing := by
  intro s w rest hinputs idle noRow
  obtain ⟨e, illegal⟩ := decode_eq_error_of_no_match noRow
  rw [step_of_cmd hinputs idle, hostCmd_of_error illegal]
  rfl

end Sys2Proof.Machine
end

section
/-! PROOFS. The Protocol Matcher (44_protocol_matcher.md): how a pair of slots is classified (O44), what the loop of
TRYDECODE makes of pairs that all fit and of one that fits nothing, and the tolerance law (O47). -/

namespace Sys2Proof.Machine

/-! ### One pair of slots (R12, R102) -/

/-- The comparison is inclusive: a deviation of exactly the tolerance is within it (R12). -/
theorem within_iff (a b t : Nat) : within a b t = true ↔ absdiff a b ≤ t := by
  simp [within]

/-- Both slots are within the tolerance of the pair's expectations. -/
def FitsPair (u t x y : Nat) (pair : PulsePair) : Prop :=
  absdiff x (u * pair.high.toNat) ≤ t ∧ absdiff y (u * pair.low.toNat) ≤ t

theorem fitsPair_iff (u t x y : Nat) (pair : PulsePair) :
    (within x (u * pair.high.toNat) t && within y (u * pair.low.toNat) t) = true ↔ FitsPair u t x y pair := by
  rw [Bool.and_eq_true, within_iff, within_iff, FitsPair]

section Pair
variable {P : Protocol} {u t x y : Nat}

theorem classify_zero (zero : FitsPair u t x y P.zero) : classify P u t x y = some false :=
  if_pos ((fitsPair_iff ..).mpr zero)

theorem classify_of_not_zero (notZero : ¬ FitsPair u t x y P.zero) :
    classify P u t x y =
      if within x (u * P.one.high.toNat) t && within y (u * P.one.low.toNat) t then some true else none :=
  if_neg (mt (fitsPair_iff ..).mp notZero)

theorem classify_one (notZero : ¬ FitsPair u t x y P.zero) (one : FitsPair u t x y P.one) :
    classify P u t x y = some true :=
  (classify_of_not_zero notZero).trans (if_pos ((fitsPair_iff ..).mpr one))

theorem classify_none (notZero : ¬ FitsPair u t x y P.zero) (notOne : ¬ FitsPair u t x y P.one) :
    classify P u t x y = none :=
  (classify_of_not_zero notZero).trans (if_neg (mt (fitsPair_iff ..).mp notOne))

/-- A pair that fits the pattern of a bit is that bit, unless it is a 1 that fits the zero pattern too. -/
theorem classify_bitPair {bit : Bool} (fits : FitsPair u t x y (bitPair P bit))
    (told : bit = true → ¬ FitsPair u t x y P.zero) : classify P u t x y = some bit := by
  cases bit with
  | false => exact classify_zero fits
  | true => exact classify_one (told rfl) fits

/-- A pair with a slot beyond the tolerance of both patterns is no bit. -/
theorem classify_none_of_deviation
    (beyond : (t < absdiff x (u * P.zero.high.toNat) ∧ t < absdiff x (u * P.one.high.toNat)) ∨
      (t < absdiff y (u * P.zero.low.toNat) ∧ t < absdiff y (u * P.one.low.toNat))) :
    classify P u t x y = none := by
  obtain ⟨zero, one⟩ | ⟨zero, one⟩ := beyond
  · exact classify_none (fun fits => zero.not_ge fits.1) fun fits => one.not_ge fits.1
  · exact classify_none (fun fits => zero.not_ge fits.2) fun fits => one.not_ge fits.2

end Pair

/-! ### The accumulator (R206) -/

theorem shiftIn_getLsbD_zero (code : Word) (bit : Bool) : (shiftIn code bit).getLsbD 0 = bit := by
  simp [shiftIn]

theorem shiftIn_getLsbD_succ (code : Word) (bit : Bool) {m : Nat} (hm : m + 1 < 32) :
    (shiftIn code bit).getLsbD (m + 1) = code.getLsbD m := by
  simp [shiftIn, hm, BitVec.getLsbD_eq_getElem (show m < 32 by omega)]

/-- The accumulator after the bits `bit 0`, ..., `bit (n - 1)` have been taken in that order. -/
def shiftAll (code : Word) (bit : Nat → Bool) : Nat → Word
  | 0 => code
  | n + 1 => shiftAll (shiftIn code (bit 0)) (fun k => bit (k + 1)) n

/-- The last bit taken is bit 0; what was there before stands above the `n` taken. -/
theorem shiftAll_getLsbD (n : Nat) {m : Nat} (hm : m < 32) :
    ∀ (code : Word) (bit : Nat → Bool),
      (shiftAll code bit n).getLsbD m = if m < n then bit (n - 1 - m) else code.getLsbD (m - n) := by
  induction n with
  | zero => intro code bit; rfl
  | succ n ih =>
    intro code bit
    rw [shiftAll, ih]
    by_cases taken : m < n
    · rw [if_pos taken, if_pos (by omega), show n - 1 - m + 1 = n + 1 - 1 - m by omega]
    · obtain ⟨j, rfl⟩ := Nat.exists_eq_add_of_le (Nat.le_of_not_lt taken)
      rw [if_neg taken]
      cases j with
      | zero => rw [if_pos (by omega), Nat.add_zero, Nat.sub_self, shiftIn_getLsbD_zero, show n + 1 - 1 - n = 0 by omega]
      | succ j =>
        rw [if_neg (by omega), show n + (j + 1) - n = j + 1 by omega, shiftIn_getLsbD_succ _ _ (by omega),
          show n + (j + 1) - (n + 1) = j by omega]

/-- Taking the bits of a code, the most significant of its low `n` bits first, gives those low bits. -/
theorem shiftAll_code (c : Word) {n : Nat} :
    (shiftAll 0 (fun k => c.getLsbD (n - 1 - k)) n).toNat = c.toNat % 2 ^ n := by
  apply Nat.eq_of_testBit_eq
  intro m
  rw [Nat.testBit_mod_two_pow, ← BitVec.getLsbD, ← BitVec.getLsbD]
  by_cases inWord : m < 32
  · rw [shiftAll_getLsbD n inWord]
    by_cases taken : m < n
    · simp [taken, show n - 1 - (n - 1 - m) = m by omega]
    · simp [taken]
  · simp [BitVec.getLsbD_of_ge _ m (Nat.le_of_not_lt inWord)]

/-! ### The loop (R201, R204, R207) -/

section Loop
variable {P : Protocol} {u t E : Nat} {tb : Memory 32}

/-- A round on a pair inside the recorded slots that is a bit. -/
theorem matchLoop_bit {i fuel : Nat} {bit : Bool} (inside : i + 1 < E)
    (fits : classify P u t (tb.read i).toNat (tb.read (i + 1)).toNat = some bit) (code : Word) :
    matchLoop P u t tb E (fuel + 1) i code = matchLoop P u t tb E fuel (i + 2) (shiftIn code bit) := by
  rw [matchLoop, if_pos inside, fits]

theorem matchLoop_no_bit {i fuel : Nat} (inside : i + 1 < E)
    (fails : classify P u t (tb.read i).toNat (tb.read (i + 1)).toNat = none) (code : Word) :
    matchLoop P u t tb E (fuel + 1) i code = none := by
  rw [matchLoop, if_pos inside, fails]

/-- No whole pair is left: the loop answers its accumulator, whatever fuel is left. -/
theorem matchLoop_end {i : Nat} (outside : E ≤ i + 1) (fuel : Nat) (code : Word) :
    matchLoop P u t tb E fuel i code = some code := by
  cases fuel with
  | zero => rfl
  | succ fuel => rw [matchLoop, if_neg (by omega)]

/-- Where each of the `n` pairs from slot `i` to the end is a bit, the loop takes these bits in order. -/
theorem matchLoop_bits {n : Nat} : ∀ {i fuel : Nat} {bit : Nat → Bool} (code : Word),
    n ≤ fuel → i + 2 * n ≤ E → E ≤ i + 2 * n + 1 →
    (∀ k, k < n → classify P u t (tb.read (i + 2 * k)).toNat (tb.read (i + 2 * k + 1)).toNat = some (bit k)) →
    matchLoop P u t tb E fuel i code = some (shiftAll code bit n) := by
  induction n with
  | zero =>
    intro i fuel bit code _ _ atEnd _
    exact matchLoop_end atEnd fuel code
  | succ n ih =>
    intro i fuel bit code enough inside atEnd fits
    obtain ⟨fuel, rfl⟩ : ∃ f, fuel = f + 1 := ⟨fuel - 1, by omega⟩
    rw [matchLoop_bit (i := i) (by omega) (fits 0 (by omega)), shiftAll]
    refine ih _ (by omega) (by omega) (by omega) fun k hk => ?_
    have next := fits (k + 1) (by omega)
    rwa [show i + 2 * (k + 1) = i + 2 + 2 * k by omega] at next

/-- A pair that is no bit makes the loop fail, whatever the pairs before it are (R207). -/
theorem matchLoop_none {k : Nat} : ∀ {i fuel : Nat} (code : Word),
    k < fuel → i + 2 * k + 1 < E →
    classify P u t (tb.read (i + 2 * k)).toNat (tb.read (i + 2 * k + 1)).toNat = none →
    matchLoop P u t tb E fuel i code = none := by
  induction k with
  | zero =>
    intro i fuel code enough inside fails
    obtain ⟨fuel, rfl⟩ : ∃ f, fuel = f + 1 := ⟨fuel - 1, by omega⟩
    exact matchLoop_no_bit inside fails code
  | succ k ih =>
    intro i fuel code enough inside fails
    obtain ⟨fuel, rfl⟩ : ∃ f, fuel = f + 1 := ⟨fuel - 1, by omega⟩
    cases first : classify P u t (tb.read i).toNat (tb.read (i + 1)).toNat with
    | none => exact matchLoop_no_bit (by omega) first code
    | some bit =>
      rw [matchLoop_bit (by omega) first]
      rw [show i + 2 * (k + 1) = i + 2 + 2 * k by omega] at inside fails
      exact ih _ (by omega) inside fails

/-- The loop reads a frame of up to 32 bits as the code it holds, when no one-pair also fits the zero pattern. -/
theorem matchLoop_frame {c : Word} {len start : Nat} (frame : HoldsFrame P u t c len start tb)
    (told : ∀ k, k < len → c.getLsbD (len - 1 - k) = true →
      ¬ FitsPair u t (tb.read (start + 2 * k)).toNat (tb.read (start + 2 * k + 1)).toNat P.zero)
    (inside : start + 2 * len ≤ E) (atEnd : E ≤ start + 2 * len + 1) :
    matchLoop P u t tb E E start 0 = some (shiftAll 0 (fun k => c.getLsbD (len - 1 - k)) len) :=
  matchLoop_bits 0 (by omega) inside atEnd fun k hk => classify_bitPair (frame k hk) (told k hk)

end Loop

/-! ### TRYDECODE (R201) -/

/-- The loop of TRYDECODE under protocol `p`, with the unit and the tolerance it measures (R202, R203). -/
def tryLoop (p E : Nat) (s : State) : Option Word :=
  matchLoop (protocolAt s.pt p) (unitEstimate (protocolAt s.pt p) s.tb)
    (tolerance (unitEstimate (protocolAt s.pt p) s.tb) s.rxTol) s.tb E E (startSlot (protocolAt s.pt p)) 0

theorem tryDecode_eq_none {p E : Nat} {s : State} (h : tryLoop p E s = none) : tryDecode p E s = none := by
  rw [tryLoop] at h
  simp only [tryDecode, h]

theorem tryDecode_eq_some {p E : Nat} {s : State} {code : Word} (h : tryLoop p E s = some code) (guard : 7 < E) :
    tryDecode p E s = some
      { value := code, len := BitVec.ofNat 8 ((E - 1) / 2)
        unit := BitVec.ofNat 32 (unitEstimate (protocolAt s.pt p) s.tb), proto := BitVec.ofNat 3 p } := by
  rw [tryLoop] at h
  simp only [tryDecode, h]
  exact if_pos guard

theorem startSlot_range (P : Protocol) : 1 ≤ startSlot P ∧ startSlot P ≤ 2 := by
  unfold startSlot
  split <;> decide

/-! ### The statements -/

/-- Settles O44: one lemma for each outcome. -/
theorem pairClassification : Obligations.PairClassification :=
  fun _ _ _ _ _ => ⟨classify_zero, classify_one, classify_none⟩

/-- Settles O47: within the tolerance every pair is the bit sent, beyond it some pair is no bit. -/
theorem toleranceLaw : Obligations.ToleranceLaw := by
  intro s p _ _ P u tol start
  obtain ⟨atLeastOne, atMostTwo⟩ : 1 ≤ start ∧ start ≤ 2 := startSlot_range P
  constructor
  · intro L c atLeast atMost frame told
    have loop : tryLoop p (2 * L + 2) s = some (shiftAll 0 (fun k => c.getLsbD (L - 1 - k)) L) :=
      matchLoop_frame (start := start) frame told (by omega) (by omega)
    refine ⟨_, tryDecode_eq_some loop (by omega), shiftAll_code c, ?_⟩
    have len : (2 * L + 2 - 1) / 2 = L := by omega
    simp only [len, BitVec.toNat_ofNat]
    omega
  · intro E k inside beyond
    exact tryDecode_eq_none (matchLoop_none (k := k) 0 (by omega) inside (classify_none_of_deviation beyond))

end Sys2Proof.Machine
end

section
/-! PROOFS. The Protocol Table (40_protocol_table.md): which entry each index names (O59). -/

namespace Sys2Proof.Machine

/-- Settles O59: each index from 1 to 6 selects its own branch of PROTOCOLAT, whatever the table holds. -/
theorem protocolAtIsTheTableEntry : Obligations.ProtocolAtIsTheTableEntry :=
  fun _ => ⟨rfl, rfl, rfl, rfl, rfl, rfl⟩

end Sys2Proof.Machine
end

section
/-! PROOFS. The pulse emitter and the TX sequencer (41_pulse_emitter.md): a pair as two segments (O20), what EMIT
starts (O21), what a TICK does to the sequencer (O32), and the whole waveform of a transmission (O27). The last
rests on one relation, `Plays`: the sequencer stands where starting a given segment list puts it; a TICK shortens
the first segment of nonzero duration by a microsecond, and a segment of duration 0 is as good as passed. -/

namespace Sys2Proof.Machine

/-! ### A pair as two segments -/

/-- Inversion swaps the levels of the two segments, and their durations stay in order (R130). -/
theorem pairSegs_eq (P : Protocol) (pair : PulsePair) :
    pairSegs P pair = [⟨!P.inv, dur P pair.high⟩, ⟨P.inv, dur P pair.low⟩] := by
  unfold pairSegs
  cases P.inv <;> rfl

theorem dur_eq_zero_iff (P : Protocol) (m : Byte) : dur P m = 0 ↔ P.unit.toNat * m.toNat = 0 := by
  rw [← dur_toNat]
  exact BitVec.toNat_inj.symm

/-- Settles O20: the levels as `pairSegs_eq` has them, the durations exact in 24 bits. -/
theorem pairWaveform : Obligations.PairWaveform := by
  intro P pair
  exact ⟨dur P pair.high, dur P pair.low, pairSegs_eq P pair, dur_toNat P pair.high, dur_toNat P pair.low⟩

/-! ### Starting segments -/

theorem dur_toNat_pos_iff {g : Segment} : 0 < g.dur.toNat ↔ g.dur ≠ 0 := by
  rw [Nat.pos_iff_ne_zero, ne_eq, ne_eq, ← BitVec.toNat_inj]
  rfl

/-- A segment of duration 0 only hands its level on (R135). -/
theorem startSegs_zero {g : Segment} (h : g.dur = 0) (out : Bool) (rest : List Segment) :
    startSegs out (g :: rest) = startSegs g.level rest := if_pos h

theorem startSegs_nonzero {g : Segment} (h : g.dur ≠ 0) (out : Bool) (rest : List Segment) :
    startSegs out (g :: rest) = (g.level, g.dur, rest) := if_neg h

/-- Where the loop of TxAdvance ends, a busy sequencer stays busy if and only if there was time left in the list
(R133). -/
theorem busyAfter_startSegs (out : Bool) (segs : List Segment) :
    busyAfter true (startSegs out segs).2.1 (startSegs out segs).2.2 = decide (0 < totalDur segs) := by
  induction segs generalizing out with
  | nil => rfl
  | cons g rest ih =>
    by_cases zero : g.dur = 0
    · rw [startSegs_zero zero, ih]
      simp [totalDur, zero]
    · have positive : 0 < g.dur.toNat := dur_toNat_pos_iff.2 zero
      rw [startSegs_nonzero zero]
      rw [busyAfter, if_neg fun both => zero both.1]
      exact (decide_eq_true (Nat.add_pos_left positive _)).symm

/-- TxStart with the outcome of its loop named (R132, R133). -/
theorem txStart_of_startSegs {segs rest : List Segment} {s : State} {level : Bool} {d : BitVec 24}
    (h : startSegs s.out segs = (level, d, rest)) :
    txStart segs s = { s with out := level, txRemain := d, txSegs := rest, txBusy := busyAfter true d rest } := by
  unfold txStart txAdvance
  simp only [if_true, h]

/-! ### EMIT -/

/-- Settles O21: the two zero-length tests of `startSegs` on the two segments of the pair (R131, R135). -/
theorem emitStartsOnePair : Obligations.EmitStartsOnePair := by
  intro high low s _ P d1 d2
  have first : dur P high = 0 ↔ d1 = 0 := dur_eq_zero_iff P high
  have second : dur P low = 0 ↔ d2 = 0 := dur_eq_zero_iff P low
  show Host.Outcome.next (transmit (pairSegs P ⟨high, low⟩) s) = _
  congr 1
  rw [pairSegs_eq]
  obtain ⟨noPin, same⟩ | ⟨pin, started⟩ := transmit_cases [⟨!P.inv, dur P high⟩, ⟨P.inv, dur P low⟩] s
  · rw [same, if_pos noPin]
    rfl
  rw [started, if_neg pin]
  by_cases zero1 : d1 = 0
  case neg =>
    rw [if_pos zero1, txStart_of_startSegs (startSegs_nonzero (mt first.1 zero1) _ _)]
    simp only [busyAfter, reduceCtorEq, and_false, if_false]
    rfl
  rw [if_neg (not_not.2 zero1)]
  by_cases zero2 : d2 = 0
  case neg =>
    rw [if_pos zero2, txStart_of_startSegs
      ((startSegs_zero (first.2 zero1) _ _).trans (startSegs_nonzero (mt second.1 zero2) _ _))]
    rw [busyAfter, if_neg fun both => zero2 (second.1 both.1)]
    rfl
  rw [if_neg (not_not.2 zero2), txStart_of_startSegs
    ((startSegs_zero (first.2 zero1) _ _).trans (startSegs_zero (second.2 zero2) _ _))]
  rfl

/-! ### The sequencer plays a segment list -/

/-- The sequencer stands where starting the list `segs` with OUT at level `out` puts it (R132, R133). -/
structure Plays (out : Bool) (segs : List Segment) (s : State) : Prop where
  registers : startSegs out segs = (s.out, s.txRemain, s.txSegs)
  busy : s.txBusy = decide (0 < totalDur segs)

section Plays
variable {out : Bool} {g : Segment} {segs rest : List Segment} {s : State}

theorem plays_nil_iff : Plays out [] s ↔ s.out = out ∧ s.txRemain = 0 ∧ s.txSegs = [] ∧ s.txBusy = false := by
  constructor
  · rintro ⟨registers, busy⟩
    simp only [startSegs, Prod.mk.injEq] at registers
    obtain ⟨level, remain, left⟩ := registers
    exact ⟨level.symm, remain.symm, left.symm, busy⟩
  · rintro ⟨level, remain, left, busy⟩
    exact ⟨by rw [level, remain, left]; rfl, busy⟩

/-- A segment of duration 0 is passed over (R135). -/
theorem plays_zero_iff (zero : g.dur = 0) : Plays out (g :: rest) s ↔ Plays g.level rest s := by
  have sameTime : totalDur (g :: rest) = totalDur rest := by simp [totalDur, zero]
  constructor
  · rintro ⟨registers, busy⟩
    exact ⟨startSegs_zero zero out rest ▸ registers, sameTime ▸ busy⟩
  · rintro ⟨registers, busy⟩
    exact ⟨(startSegs_zero zero out rest).trans registers, sameTime ▸ busy⟩

/-- A segment with time left is the one in progress. -/
theorem plays_nonzero_iff (nonzero : g.dur ≠ 0) :
    Plays out (g :: rest) s ↔ s.out = g.level ∧ s.txRemain = g.dur ∧ s.txSegs = rest ∧ s.txBusy = true := by
  have started := startSegs_nonzero nonzero out rest
  have timeLeft : decide (0 < totalDur (g :: rest)) = true :=
    decide_eq_true (Nat.add_pos_left (dur_toNat_pos_iff.2 nonzero) _)
  constructor
  · rintro ⟨registers, busy⟩
    simp only [started, Prod.mk.injEq] at registers
    obtain ⟨level, remain, left⟩ := registers
    exact ⟨level.symm, remain.symm, left.symm, busy.trans timeLeft⟩
  · rintro ⟨level, remain, left, busy⟩
    exact ⟨by rw [started, level, remain, left], busy.trans timeLeft.symm⟩

/-- With no time left in the list, OUT has the level of its last segment (R134, R138). -/
theorem Plays.out_of_done (h : Plays out segs s) (done : totalDur segs = 0) : s.out = lastLevel out segs := by
  induction segs generalizing out with
  | nil => exact (plays_nil_iff.1 h).1
  | cons g rest ih =>
    obtain ⟨zero, restDone⟩ := Nat.add_eq_zero_iff.1 done
    exact ih ((plays_zero_iff (BitVec.eq_of_toNat_eq zero)).1 h) restDone

/-! ### What a TICK does to the sequencer -/

theorem txAdvance_running (h : s.txRemain ≠ 0) : txAdvance s = s := if_neg h

/-- A busy sequencer whose segment has run out starts what is left of its list (R133). -/
theorem txAdvance_plays (busy : s.txBusy = true) (expired : s.txRemain = 0) : Plays s.out s.txSegs (txAdvance s) := by
  unfold txAdvance
  rw [if_pos expired]
  exact ⟨rfl, by simp only [busy, busyAfter_startSegs]⟩

theorem txStart_plays (segs : List Segment) (s : State) : Plays s.out segs (txStart segs s) :=
  txAdvance_plays (s := { s with txSegs := segs, txRemain := 0, txBusy := true }) rfl rfl

theorem tick_idle (idle : s.txBusy = false) : tick s = countTime s :=
  if_neg (by simp [countTime, idle])

theorem tick_busy (busy : s.txBusy = true) :
    tick s = txAdvance { countTime s with txRemain := s.txRemain - 1 } := if_pos busy

/-- Within a segment a TICK only counts (R136). -/
theorem tick_running (busy : s.txBusy = true) (more : s.txRemain ≠ 1) :
    tick s = { countTime s with txRemain := s.txRemain - 1 } := by
  rw [tick_busy busy, txAdvance_running]
  intro expired
  exact more (by simpa using sub_eq_zero.1 expired)

/-- At the last microsecond of a segment a TICK starts the segments still to come (R133, R136). -/
theorem tick_plays_of_last (busy : s.txBusy = true) (last : s.txRemain = 1) : Plays s.out s.txSegs (tick s) := by
  rw [tick_busy busy]
  exact txAdvance_plays (s := { countTime s with txRemain := s.txRemain - 1 }) busy (by simp [last])

end Plays

/-- Settles O32, by what is left of the segment in progress, and at its end by what is left of the list. -/
theorem tickAdvancesTheSequencer : Obligations.TickAdvancesTheSequencer := by
  intro s
  refine ⟨fun idle => ?_, fun busy more => ?_, fun busy last noMore => ?_, fun g rest busy last next nonzero => ?_⟩
  · rw [tick_idle idle]
    exact ⟨rfl, rfl, rfl, rfl⟩
  · rw [tick_running busy (by rintro last; simp [last] at more)]
    refine ⟨rfl, busy, rfl, ?_⟩
    show (s.txRemain - 1).toNat = _
    bv_omega
  · have ended := tick_plays_of_last busy last
    rw [noMore, plays_nil_iff] at ended
    obtain ⟨level, remain, left, idle⟩ := ended
    exact ⟨level, idle, left, remain⟩
  · have started := tick_plays_of_last busy last
    rw [next, plays_nonzero_iff nonzero] at started
    obtain ⟨level, remain, left, stillBusy⟩ := started
    exact ⟨level, stillBusy, left, remain⟩

/-! ### The whole transmission -/

theorem ticks_add (m n : Nat) (s : State) : ticks (m + n) s = ticks n (ticks m s) := by
  induction m generalizing s with
  | zero => rw [Nat.zero_add]; rfl
  | succ m ih => rw [Nat.succ_add]; exact ih (tick s)

/-- T counts on, whatever the sequencer does (R31, R136). -/
theorem time_ticks (k : Nat) (s : State) : time (ticks k s) = time s + BitVec.ofNat 32 k := by
  induction k generalizing s with
  | zero => simp [ticks]
  | succ k ih =>
    rw [ticks, ih, time_tick, BitVec.add_assoc, Nat.add_comm k 1, BitVec.ofNat_add]
    rfl

section Transmission
variable {out : Bool} {g : Segment} {segs rest : List Segment} {s : State}

/-- A finished transmission stays finished. -/
theorem Plays.tick_nil (h : Plays out [] s) : Plays out [] (tick s) := by
  rw [plays_nil_iff] at h ⊢
  obtain ⟨level, remain, left, idle⟩ := h
  rw [tick_idle idle]
  exact ⟨level, remain, left, idle⟩

/-- A TICK takes one microsecond off the segment in progress; at its last one, what is left is a segment of
duration 0, which is passed over at once. -/
theorem Plays.tick_cons (nonzero : g.dur ≠ 0) (h : Plays out (g :: rest) s) :
    Plays out (⟨g.level, g.dur - 1⟩ :: rest) (tick s) := by
  obtain ⟨level, remain, left, busy⟩ := (plays_nonzero_iff nonzero).1 h
  by_cases last : g.dur = 1
  · rw [plays_zero_iff (by simp [last])]
    have started := tick_plays_of_last busy (remain.trans last)
    rwa [level, left] at started
  · rw [plays_nonzero_iff (fun expired => last (by simpa using sub_eq_zero.1 expired)),
      tick_running busy (by rwa [remain])]
    exact ⟨level, by rw [remain], left, busy⟩

/-- A TICK takes one microsecond off the list, if there is one, and leaves its last level. -/
theorem Plays.after_tick (h : Plays out segs s) : ∃ out' segs', Plays out' segs' (tick s) ∧
    totalDur segs' = totalDur segs - 1 ∧ lastLevel out' segs' = lastLevel out segs := by
  induction segs generalizing out with
  | nil => exact ⟨out, [], h.tick_nil, rfl, rfl⟩
  | cons g rest ih =>
    by_cases zero : g.dur = 0
    · obtain ⟨out', segs', plays, left, level⟩ := ih ((plays_zero_iff zero).1 h)
      exact ⟨out', segs', plays, by simpa [totalDur, zero] using left, level⟩
    · refine ⟨out, _, h.tick_cons zero, ?_, rfl⟩
      simp only [totalDur]
      bv_omega

theorem Plays.after_ticks (h : Plays out segs s) (k : Nat) : ∃ out' segs', Plays out' segs' (ticks k s) ∧
    totalDur segs' = totalDur segs - k ∧ lastLevel out' segs' = lastLevel out segs := by
  induction k generalizing out segs s with
  | zero => exact ⟨out, segs, h, rfl, rfl⟩
  | succ k ih =>
    obtain ⟨_, _, plays, left, level⟩ := h.after_tick
    obtain ⟨out', segs', plays', left', level'⟩ := ih plays
    exact ⟨out', segs', plays', by omega, level'.trans level⟩

/-- TX_BUSY is 1 for exactly the sum of the durations (R138). -/
theorem Plays.ticks_txBusy (h : Plays out segs s) (k : Nat) :
    (ticks k s).txBusy = decide (k < totalDur segs) := by
  obtain ⟨_, _, plays, left, -⟩ := h.after_ticks k
  rw [plays.busy, left]
  exact decide_eq_decide.2 Nat.sub_pos_iff_lt

/-- When the durations have passed, OUT rests at the last level (R138, R139). -/
theorem Plays.ticks_out_of_done (h : Plays out segs s) {k : Nat} (done : totalDur segs ≤ k) :
    (ticks k s).out = lastLevel out segs := by
  obtain ⟨_, _, plays, left, level⟩ := h.after_ticks k
  rw [plays.out_of_done (by omega), level]

/-- As many TICKs as a segment has microseconds, or fewer, shorten it. -/
theorem Plays.ticks_cons {k : Nat} (inside : k ≤ g.dur.toNat) (h : Plays out (g :: rest) s) :
    Plays out (⟨g.level, g.dur - BitVec.ofNat 24 k⟩ :: rest) (ticks k s) := by
  induction k generalizing g s with
  | zero => simpa [ticks] using h
  | succ k ih =>
    have nonzero : g.dur ≠ 0 := dur_toNat_pos_iff.1 (by omega)
    have shortened := ih (by simp only; bv_omega) (h.tick_cons nonzero)
    have oneMore : g.dur - 1 - BitVec.ofNat 24 k = g.dur - BitVec.ofNat 24 (k + 1) := by bv_omega
    rwa [oneMore] at shortened

/-- The rest of a list plays when the durations of its first part have passed (R138). -/
theorem Plays.ticks_append {pre : List Segment} (h : Plays out (pre ++ rest) s) :
    Plays (lastLevel out pre) rest (ticks (totalDur pre) s) := by
  induction pre generalizing out s with
  | nil => exact h
  | cons g pre ih =>
    have passed := Plays.ticks_cons (Nat.le_refl _) h
    rw [plays_zero_iff (by simp)] at passed
    rw [totalDur, ticks_add]
    exact ih passed

/-- In the microseconds of a segment OUT has its level (R138). -/
theorem Plays.ticks_out_of_segment {pre : List Segment} {k : Nat} (h : Plays out (pre ++ g :: rest) s)
    (started : totalDur pre ≤ k) (running : k < totalDur pre + g.dur.toNat) : (ticks k s).out = g.level := by
  obtain ⟨j, rfl⟩ := Nat.exists_eq_add_of_le started
  have plays := h.ticks_append.ticks_cons (k := j) (by omega)
  rw [← ticks_add, plays_nonzero_iff (by bv_omega)] at plays
  obtain ⟨level, -⟩ := plays
  exact level

end Transmission

/-- Settles O27: TxStart plays the list, and each clause is what the list being played says of the TICKs to come. -/
theorem wholeTransmission : Obligations.WholeTransmission := by
  intro s segs _
  have plays := txStart_plays segs s
  refine ⟨plays.ticks_txBusy, fun pre g post k parts started running => ?_, fun k done => plays.ticks_out_of_done done,
    fun k => ?_⟩
  · subst parts
    exact plays.ticks_out_of_segment started running
  · rw [time_ticks, time_txStart]

end Sys2Proof.Machine
end

section
/-! PROOFS. The Transmitter (42_transmitter.md): its configuration (O14, O15, O16), the segment list of a send and how
long it lasts (O26, O28), SENDBITS (O22), the symbol buffer (O25) and the two string sends (O23, O24). A string send
is SENDBITS of the code its symbols spell, so what is left to show of it is which bits that code has. -/

namespace Sys2Proof.Machine

/-! ### The configuration -/

/-- The clamp is made on the number: what is stored fits TX_PROTO (R150). -/
theorem clampProto_eq_ofNat (index : Byte) :
    clampProto index = BitVec.ofNat 3 (if 1 ≤ index.toNat ∧ index.toNat ≤ 6 then index.toNat else 1) := by
  unfold clampProto
  split
  · exact (BitVec.ofNat_toNat 3 index).symm
  · rfl

/-- Settles O14: SETPROTO stores the clamped index, which `clampProto_eq_ofNat` spells out. -/
theorem setProtoStoresOrClamps : Obligations.SetProtoStoresOrClamps := by
  intro index s _
  rw [← clampProto_eq_ofNat]
  rfl

/-- Settles O15: SETREP has one case, and its next state is the stated one. -/
theorem setRepStores : Obligations.SetRepStores :=
  fun _ _ _ => rfl

/-- Settles O16: CFGOUT has one case, and its next state is the stated one. -/
theorem cfgOutStores : Obligations.CfgOutStores :=
  fun _ _ _ => rfl

/-! ### The segment list of a send (R153) -/

section SegmentList
variable (P : Protocol) (c : Word)

theorem pairSegs_length (pair : PulsePair) : (pairSegs P pair).length = 2 := by
  rw [pairSegs_eq]
  rfl

theorem take_pairSegs_append (pair : PulsePair) (rest : List Segment) :
    (pairSegs P pair ++ rest).take 2 = pairSegs P pair :=
  List.take_left' (pairSegs_length P pair)

theorem frameSegs_zero : frameSegs P c 0 = pairSegs P P.sync := rfl

/-- A frame starts with its most significant bit, and what follows is the frame of the bits below. -/
theorem frameSegs_succ (len : Nat) :
    frameSegs P c (len + 1) = pairSegs P (bitPair P (c.getLsbD len)) ++ frameSegs P c len :=
  List.append_assoc ..

theorem sendSegs_zero (len : Nat) : sendSegs P c len 0 = [] := rfl

theorem sendSegs_succ (len repeats : Nat) :
    sendSegs P c len (repeats + 1) = frameSegs P c len ++ sendSegs P c len repeats := by
  rw [sendSegs, List.replicate_succ, List.flatten_cons, sendSegs]

theorem frameSegs_length (len : Nat) : (frameSegs P c len).length = 2 * len + 2 := by
  induction len with
  | zero => exact pairSegs_length P P.sync
  | succ len ih =>
    rw [frameSegs_succ, List.length_append, pairSegs_length, ih]
    omega

theorem sendSegs_length (len repeats : Nat) : (sendSegs P c len repeats).length = repeats * (2 * len + 2) := by
  induction repeats with
  | zero => rw [sendSegs_zero, List.length_nil, Nat.zero_mul]
  | succ repeats ih =>
    rw [sendSegs_succ, List.length_append, frameSegs_length, ih]
    ring

/-- Past the pairs of its `m` highest bits, a frame is the frame of the bits that are left. -/
theorem drop_frameSegs (len m : Nat) : (frameSegs P c (len + m)).drop (2 * m) = frameSegs P c len := by
  induction m with
  | zero => rfl
  | succ m ih =>
    rw [← Nat.add_assoc, frameSegs_succ, Nat.mul_succ, Nat.add_comm, ← List.drop_drop,
      List.drop_left' (pairSegs_length P _), ih]

/-- Past `f` whole frames, a send is the send of the repeats that are left. -/
theorem drop_sendSegs (len repeats f : Nat) :
    (sendSegs P c len (repeats + f)).drop (f * (2 * len + 2)) = sendSegs P c len repeats := by
  induction f with
  | zero => rw [Nat.zero_mul, List.drop_zero, Nat.add_zero]
  | succ f ih =>
    rw [← Nat.add_assoc, sendSegs_succ, Nat.succ_mul, Nat.add_comm, ← List.drop_drop,
      List.drop_left' (frameSegs_length P c len), ih]

/-- Inside frame `f` of a send, past the pairs of the `m` highest bits: the rest of this frame, then the frames that
are left. -/
theorem drop_sendSegs_inside {len repeats f m : Nat} (frame : f < repeats) (bit : m ≤ len) :
    (sendSegs P c len repeats).drop (f * (2 * len + 2) + 2 * m) =
      frameSegs P c (len - m) ++ sendSegs P c len (repeats - 1 - f) := by
  have frames : repeats = repeats - 1 - f + 1 + f := by omega
  have bits : len = len - m + m := by omega
  have inside : 2 * m ≤ (frameSegs P c len).length := by
    rw [frameSegs_length]
    omega
  have restOfFrame : (frameSegs P c len).drop (2 * m) = frameSegs P c (len - m) := by
    conv_lhs => rw [bits]
    exact drop_frameSegs P c (len - m) m
  have restOfSend : (sendSegs P c len repeats).drop (f * (2 * len + 2)) = sendSegs P c len (repeats - 1 - f + 1) := by
    conv_lhs => rw [frames]
    exact drop_sendSegs P c len _ f
  rw [← List.drop_drop, restOfSend, sendSegs_succ, List.drop_append_of_le_length inside, restOfFrame]

end SegmentList

/-- Settles O26: what is left of the send at the stated position starts with the pair of the next bit, or with the sync
pair when no bit is left. -/
theorem segmentListOfASend : Obligations.SegmentListOfASend := by
  intro P c L R
  refine ⟨sendSegs_length P c L R, fun f frame => ⟨fun m bit => ?_, ?_⟩⟩
  · have next : L - m = L - 1 - m + 1 := by omega
    rw [drop_sendSegs_inside P c frame bit.le, next, frameSegs_succ, List.append_assoc, take_pairSegs_append]
  · rw [drop_sendSegs_inside P c frame le_rfl, Nat.sub_self, frameSegs_zero, take_pairSegs_append]

/-! ### The duration of a send (R168) -/

theorem totalDur_append (as bs : List Segment) : totalDur (as ++ bs) = totalDur as + totalDur bs := by
  induction as with
  | nil => exact (Nat.zero_add _).symm
  | cons g as ih => rw [List.cons_append, totalDur, totalDur, ih, Nat.add_assoc]

theorem totalDur_pairSegs (P : Protocol) (pair : PulsePair) :
    totalDur (pairSegs P pair) = P.unit.toNat * (pair.high.toNat + pair.low.toNat) := by
  simp only [pairSegs_eq, totalDur, dur_toNat]
  ring

theorem onesBelow_le (c : Word) (n : Nat) : onesBelow c n ≤ n := by
  induction n with
  | zero => exact le_rfl
  | succ n ih =>
    rw [onesBelow]
    split <;> omega

/-- A frame lasts as long as its 0 bits, its 1 bits and one sync pair. -/
theorem totalDur_frameSegs (P : Protocol) (c : Word) (len : Nat) :
    totalDur (frameSegs P c len) = P.unit.toNat *
      ((len - onesBelow c len) * (P.zero.high.toNat + P.zero.low.toNat)
        + onesBelow c len * (P.one.high.toNat + P.one.low.toNat)
        + (P.sync.high.toNat + P.sync.low.toNat)) := by
  induction len with
  | zero =>
    rw [frameSegs_zero, totalDur_pairSegs, onesBelow]
    ring
  | succ len ih =>
    have bound := onesBelow_le c len
    rw [frameSegs_succ, totalDur_append, totalDur_pairSegs, ih, onesBelow]
    cases c.getLsbD len with
    | false =>
      have zeros : len + 1 - (onesBelow c len + 0) = len - onesBelow c len + 1 := by omega
      simp only [bitPair, Bool.false_eq_true, if_false, zeros]
      ring
    | true =>
      have zeros : len + 1 - (onesBelow c len + 1) = len - onesBelow c len := by omega
      simp only [bitPair, if_true, zeros]
      ring

/-- Settles O28: the repeats of one frame, and the frame's own formula. -/
theorem durationOfASend : Obligations.DurationOfASend := by
  intro P c L R
  rw [sendDuration, ← totalDur_frameSegs]
  induction R with
  | zero => rw [sendSegs_zero, totalDur, Nat.zero_mul]
  | succ R ih => rw [sendSegs_succ, totalDur_append, ih, Nat.succ_mul, Nat.add_comm]

/-! ### SENDBITS -/

/-- A send whose code and length are known: a no-op without an output pin, else TxStart (R152, R154). -/
theorem sendCode_eq (code : Word) (len : Nat) (s : State) :
    sendCode code len s =
      if s.outPin = 0xFF then { s with resp := some ⟨true, 0⟩ }
      else
        { txStart (sendSegs (protocolAt s.pt s.txProto.toNat) code len s.txRepeat.toNat) s with
          resp := some ⟨true, 0⟩ } := rfl

theorem exec_sendBits_of_gt {bitLength : Byte} (h : 32 < bitLength.toNat) (code : Word) (s : State) :
    exec (.sendBits bitLength code) s = .next (refuse s) := if_pos h

theorem exec_sendBits_of_le {bitLength : Byte} (h : bitLength.toNat ≤ 32) (code : Word) (s : State) :
    exec (.sendBits bitLength code) s = .next (sendCode code bitLength.toNat s) := if_neg (Nat.not_lt.2 h)

/-- Settles O22: the length check, then what a send does. -/
theorem sendBitsStartsTheSend : Obligations.SendBitsStartsTheSend := by
  intro bitLength code s _
  by_cases tooLong : 32 < bitLength.toNat
  · rw [exec_sendBits_of_gt tooLong, if_pos tooLong]
    rfl
  · rw [exec_sendBits_of_le (Nat.le_of_not_lt tooLong), if_neg tooLong, sendCode_eq]

/-! ### The symbol buffer -/

theorem exec_putSym_of_gt {index : Byte} (h : 31 < index.toNat) (character : Byte) (s : State) :
    exec (.putSym index character) s = .next (refuse s) := if_pos h

theorem exec_putSym_of_le {index : Byte} (h : index.toNat ≤ 31) (character : Byte) (s : State) :
    exec (.putSym index character) s = .next (accept (writeSym index.toNat character s)) :=
  if_neg (Nat.not_le.2 (Nat.lt_succ_of_le h))

/-- Settles O25: the index check, then the laws of a write to a cell of SYM. -/
theorem putSymWritesOneCell : Obligations.PutSymWritesOneCell := by
  intro index character s _ canonical
  refine ⟨fun outside => exec_putSym_of_gt outside character s,
    fun inside => ⟨s.sym.write index.toNat character, exec_putSym_of_le inside character s, ?_, fun a other => ?_, ?_⟩⟩
  · rw [memory_read_write _ _ _ _ canonical, if_pos rfl]
  · rw [memory_read_write _ _ _ _ canonical, if_neg other.symm]
  · exact memory_write_wf (by omega) canonical

/-! ### Binary strings (R100, R163) -/

theorem binBit_eq (ch : Byte) : binBit ch = decide (ch ≠ 0x30) := by
  unfold binBit
  simp [char0, beq_eq_decide]

/-- The string's code is taken in bit by bit, as the matcher's accumulator is. -/
theorem binCode_succ (sym : Memory 8) (n : Nat) :
    binCode sym (n + 1) = shiftIn (binCode sym n) (binBit (sym.read n)) := rfl

/-- The last of `n` characters is bit 0 of the code, the first is bit `n - 1`, and above it there is nothing. -/
theorem binCode_getLsbD (sym : Memory 8) (n : Nat) {m : Nat} (inWord : m < 32) :
    (binCode sym n).getLsbD m = (decide (m < n) && binBit (sym.read (n - 1 - m))) := by
  induction n generalizing m with
  | zero => simp [binCode]
  | succ n ih =>
    rw [binCode_succ]
    cases m with
    | zero =>
      rw [shiftIn_getLsbD_zero]
      simp
    | succ m =>
      rw [shiftIn_getLsbD_succ _ _ inWord, ih (by omega), show n + 1 - 1 - (m + 1) = n - 1 - m by omega]
      simp

theorem exec_sendBin_of_gt {n : Byte} (h : 32 < n.toNat) (s : State) :
    exec (.sendBin n) s = .next (refuse s) := if_pos h

theorem exec_sendBin_of_le {n : Byte} (h : n.toNat ≤ 32) (s : State) :
    exec (.sendBin n) s = .next (sendCode (binCode s.sym n.toNat) n.toNat s) := if_neg (Nat.not_lt.2 h)

/-- Settles O23: the count check, the bits of the code, and then SENDBITS of that code. -/
theorem sendBinSendsTheBinaryString : Obligations.SendBinSendsTheBinaryString := by
  intro n s _
  refine ⟨fun tooLong => exec_sendBin_of_gt tooLong s,
    fun fits => ⟨binCode s.sym n.toNat, fun k inString => ?_, fun k above => ?_, ?_⟩⟩
  · rw [binCode_getLsbD _ _ (by omega), binBit_eq, show n.toNat - 1 - (n.toNat - 1 - k) = k by omega,
      decide_eq_true (by omega : n.toNat - 1 - k < n.toNat), Bool.true_and]
  · by_cases inWord : k < 32
    · rw [binCode_getLsbD _ _ inWord, decide_eq_false (Nat.not_lt.2 above), Bool.false_and]
    · exact BitVec.getLsbD_of_ge _ k (Nat.le_of_not_lt inWord)
  · rw [exec_sendBits_of_le fits, exec_sendBin_of_le fits, sendCode_eq]
    exact ⟨rfl, rfl⟩

/-! ### Tri-state strings (R101, R166) -/

theorem triBits_eq_none {ch : Byte} (not0 : ch ≠ 0x30) (notF : ch ≠ 0x46) (not1 : ch ≠ 0x31) : triBits ch = none := by
  rw [triBits]
  exact (if_neg not0).trans ((if_neg notF).trans (if_neg not1))

/-- The two bits of a tri-state symbol: the upper one is set for '1' alone, the lower one for all but '0'. -/
theorem triBits_eq_some {ch : Byte} (good : ch = 0x30 ∨ ch = 0x46 ∨ ch = 0x31) :
    ∃ t : BitVec 2, triBits ch = some t ∧ t.getLsbD 1 = decide (ch = 0x31) ∧ t.getLsbD 0 = decide (ch ≠ 0x30) := by
  obtain rfl | rfl | rfl := good
  · exact ⟨0b00, by decide⟩
  · exact ⟨0b01, by decide⟩
  · exact ⟨0b11, by decide⟩

/-- The code `c` with the two bits `t` taken in at the bottom. -/
def shiftInTwo (c : Word) (t : BitVec 2) : Word := (c <<< 2) ||| t.zeroExtend 32

theorem shiftInTwo_getLsbD_low (c : Word) (t : BitVec 2) {m : Nat} (hm : m < 2) :
    (shiftInTwo c t).getLsbD m = t.getLsbD m := by
  simp [shiftInTwo, hm, show m < 32 by omega]

theorem shiftInTwo_getLsbD_high (c : Word) (t : BitVec 2) {m : Nat} (hm : m + 2 < 32) :
    (shiftInTwo c t).getLsbD (m + 2) = c.getLsbD m := by
  simp [shiftInTwo, hm, BitVec.getLsbD_eq_getElem (show m < 32 by omega)]

section TriCode
variable {sym : Memory 8}

theorem triCode_succ_some {n : Nat} {c : Word} {t : BitVec 2} (before : triCode sym n = some c)
    (last : triBits (sym.read n) = some t) : triCode sym (n + 1) = some (shiftInTwo c t) := by
  simp only [triCode, before, last, shiftInTwo]

/-- One bad symbol spoils the string (R167). -/
theorem triCode_eq_none {n k : Nat} (inString : k < n) (bad : triBits (sym.read k) = none) : triCode sym n = none := by
  induction n with
  | zero => omega
  | succ n ih =>
    rw [triCode]
    obtain before | rfl := Nat.lt_succ_iff_lt_or_eq.1 inString
    · rw [ih before]
    · rw [bad]
      cases triCode sym k <;> rfl

/-- The string `sym[0] .. sym[n-1]` spells the code `c`: the last symbol is bits 1 and 0, the first is bits `2n - 1`
and `2n - 2`, and above it there is nothing. -/
structure SpellsTri (sym : Memory 8) (n : Nat) (c : Word) : Prop where
  symbol : ∀ k, k < n → c.getLsbD (2 * (n - 1 - k) + 1) = decide (sym.read k = 0x31) ∧
    c.getLsbD (2 * (n - 1 - k)) = decide (sym.read k ≠ 0x30)
  above : ∀ m, 2 * n ≤ m → c.getLsbD m = false

/-- One symbol more moves the others up by two places. -/
theorem SpellsTri.succ {n : Nat} {c : Word} {t : BitVec 2} (fits : n < 16) (h : SpellsTri sym n c)
    (upper : t.getLsbD 1 = decide (sym.read n = 0x31)) (lower : t.getLsbD 0 = decide (sym.read n ≠ 0x30)) :
    SpellsTri sym (n + 1) (shiftInTwo c t) where
  symbol k inString := by
    obtain before | rfl := Nat.lt_succ_iff_lt_or_eq.1 inString
    · rw [show 2 * (n + 1 - 1 - k) = 2 * (n - 1 - k) + 2 by omega,
        show 2 * (n - 1 - k) + 2 + 1 = 2 * (n - 1 - k) + 1 + 2 by omega,
        shiftInTwo_getLsbD_high _ _ (by omega), shiftInTwo_getLsbD_high _ _ (by omega)]
      exact h.symbol k before
    · rw [show 2 * (k + 1 - 1 - k) = 0 by omega, shiftInTwo_getLsbD_low _ _ (by omega),
        shiftInTwo_getLsbD_low _ _ (by omega)]
      exact ⟨upper, lower⟩
  above m outside := by
    obtain ⟨j, rfl⟩ : ∃ j, m = j + 2 := ⟨m - 2, by omega⟩
    by_cases inWord : j + 2 < 32
    · rw [shiftInTwo_getLsbD_high _ _ inWord]
      exact h.above j (by omega)
    · exact BitVec.getLsbD_of_ge _ _ (Nat.le_of_not_lt inWord)

/-- A string of good symbols that fits the word has a code, and spells it. -/
theorem triCode_spells {n : Nat} (fits : n ≤ 16)
    (good : ∀ k, k < n → sym.read k = 0x30 ∨ sym.read k = 0x46 ∨ sym.read k = 0x31) :
    ∃ c, triCode sym n = some c ∧ SpellsTri sym n c := by
  induction n with
  | zero => exact ⟨0, rfl, nofun, fun m _ => BitVec.getLsbD_zero⟩
  | succ n ih =>
    obtain ⟨c, before, spells⟩ := ih (by omega) fun k hk => good k (by omega)
    obtain ⟨t, last, upper, lower⟩ := triBits_eq_some (good n (by omega))
    exact ⟨shiftInTwo c t, triCode_succ_some before last, spells.succ (by omega) upper lower⟩

end TriCode

section SendTri
variable {n : Byte} {s : State}

theorem exec_sendTri_of_gt (tooLong : 16 < n.toNat) : exec (.sendTri n) s = .next (refuse s) := if_pos tooLong

theorem exec_sendTri_of_none (bad : triCode s.sym n.toNat = none) : exec (.sendTri n) s = .next (refuse s) := by
  simp only [exec, execSendTri, bad, ite_self]

theorem exec_sendTri_of_some {c : Word} (fits : n.toNat ≤ 16) (code : triCode s.sym n.toNat = some c) :
    exec (.sendTri n) s = .next (sendCode c (2 * n.toNat) s) := by
  simp only [exec, execSendTri, code]
  exact if_neg (Nat.not_lt.2 fits)

end SendTri

/-- Settles O24: the count check, one bad symbol, and otherwise the spelled code, sent as SENDBITS sends it. -/
theorem sendTriSendsTheTriStateString : Obligations.SendTriSendsTheTriStateString := by
  intro n s _
  refine ⟨exec_sendTri_of_gt, fun _ bad => ?_, fun fits good => ?_⟩
  · obtain ⟨k, inString, not0, notF, not1⟩ := bad
    exact exec_sendTri_of_none (triCode_eq_none inString (triBits_eq_none not0 notF not1))
  · obtain ⟨c, code, spells⟩ := triCode_spells fits good
    have length : (BitVec.ofNat 8 (2 * n.toNat)).toNat = 2 * n.toNat := by
      rw [BitVec.toNat_ofNat]
      omega
    refine ⟨c, spells.symbol, spells.above, ?_⟩
    rw [exec_sendBits_of_le (by omega), length, exec_sendTri_of_some fits code, sendCode_eq]
    exact ⟨rfl, rfl⟩

end Sys2Proof.Machine
end

section
/-! PROOFS. Edge Capture (43_edge_capture.md): CFGIN (O17), what the gap logic and the full check do in each of their
cases, the next states these give EDGE (O35 to O37), and the one slot every handled edge writes (O39). -/

namespace Sys2Proof.Machine

/-- Settles O17: CFGIN has one case, and its next state is the stated one. -/
theorem cfgInStores : Obligations.CfgInStores :=
  fun _ _ _ => rfl

/-! ### The gap logic and the full check, case by case (R183 to R186) -/

section Cases
variable {d : Word} {s : State}

/-- A duration of at most SEP_LIMIT_US is data: the gap logic does nothing (R182, R183). -/
theorem gapLogic_of_data (data : d.toNat ≤ 4300) : gapLogic d s = s := by
  have noGap : exceeds d.toNat Config.sepLimitUs = false := decide_eq_false (Nat.not_lt.2 data)
  rw [gapLogic, noGap, if_neg Bool.false_ne_true]

/-- A candidate gap is either counted or clears REPEAT_CNT, by its distance from slot 0 (R183, R184). -/
theorem gapLogic_of_gap (gap : 4300 < d.toNat) :
    gapLogic d s =
      if absdiff d.toNat (s.tb.read 0).toNat ≤ 200 then { countGap s with changeCnt := 0 }
      else { s with repeatCnt := 0, changeCnt := 0 } := by
  have isGap : exceeds d.toNat Config.sepLimitUs = true := decide_eq_true gap
  rw [gapLogic, if_pos isGap]
  simp only [within_iff]

/-- Whether it qualifies or not, a candidate gap resets CHANGE_CNT (R184). -/
theorem gapLogic_changeCnt_of_gap (gap : 4300 < d.toNat) : (gapLogic d s).changeCnt = 0 := by
  rw [gapLogic_of_gap gap]
  split <;> rfl

/-- The first qualifying gap counts, and hands nothing to the coordinator (R185). -/
theorem countGap_of_first (first : s.repeatCnt = 0) : countGap s = { s with repeatCnt := 1 } := by
  have notSecond : ¬ s.repeatCnt + 1 = 2 := by
    rw [first]
    decide
  rw [countGap, if_neg notSecond, first]
  rfl

theorem fullCheck_of_room (room : s.changeCnt.toNat < 67) : fullCheck s = s := if_neg (Nat.not_le.2 room)

theorem fullCheck_of_full (full : 67 ≤ s.changeCnt.toNat) : fullCheck s = { s with changeCnt := 0, repeatCnt := 0 } :=
  if_pos full

end Cases

/-! ### The next state of a handled edge (R187) -/

section Handled
variable {s : State} (listening : s.inPin ≠ 0xFF)
include listening

theorem edge_of_listening : edge s = recordEdge (edgeDuration s) (fullCheck (gapLogic (edgeDuration s) s)) :=
  if_neg listening

/-- Data meets the full check alone (R182, R186). -/
theorem edge_of_data (data : (edgeDuration s).toNat ≤ 4300) : edge s = recordEdge (edgeDuration s) (fullCheck s) := by
  rw [edge_of_listening listening, gapLogic_of_data data]

/-- A candidate gap meets the gap logic alone: the buffer it leaves has room (R182, R184). -/
theorem edge_of_gap (gap : 4300 < (edgeDuration s).toNat) :
    edge s = recordEdge (edgeDuration s) (gapLogic (edgeDuration s) s) := by
  have room : (gapLogic (edgeDuration s) s).changeCnt.toNat < 67 := by
    rw [gapLogic_changeCnt_of_gap gap]
    decide
  rw [edge_of_listening listening, fullCheck_of_room room]

end Handled

/-- Settles O35: data at a full buffer is recorded in the state the full check empties. -/
theorem edgeAtFullBuffer : Obligations.EdgeAtFullBuffer := by
  intro s listening data full
  have noRoom : 67 ≤ s.changeCnt.toNat := by
    rw [full]
    decide
  rw [edge_of_data listening data, fullCheck_of_full noRoom]
  rfl

/-- Settles O36: the other branch of the gap logic, and the record. -/
theorem gapThatDoesNotQualify : Obligations.GapThatDoesNotQualify := by
  intro s listening gap far
  rw [edge_of_gap listening gap, edgeDuration, gapLogic_of_gap gap, if_neg (Nat.not_le.2 far)]
  rfl

/-- Settles O37: the counting branch of the gap logic with the first count, and the record. -/
theorem firstQualifyingGapCounts : Obligations.FirstQualifyingGapCounts := by
  intro s listening gap near first
  rw [edge_of_gap listening gap, edgeDuration, gapLogic_of_gap gap, if_pos near, countGap_of_first first]
  rfl

/-! ### The slot an edge writes (R186, R187) -/

/-- The slot a handled edge writes: slot 0 after a candidate gap or at a full buffer, else the one CHANGE_CNT names. -/
def edgeSlot (s : State) : BitVec 7 :=
  if (edgeDuration s).toNat ≤ 4300 ∧ s.changeCnt.toNat < 67 then s.changeCnt else 0

theorem edgeSlot_of_gap {s : State} (gap : 4300 < (edgeDuration s).toNat) : edgeSlot s = 0 :=
  if_neg fun both => Nat.not_le.2 gap both.1

theorem edgeSlot_of_data {s : State} (data : (edgeDuration s).toNat ≤ 4300) :
    edgeSlot s = if s.changeCnt.toNat < 67 then s.changeCnt else 0 := by
  simp only [edgeSlot, data, true_and]

theorem edgeSlot_lt (s : State) : (edgeSlot s).toNat < 67 := by
  unfold edgeSlot
  split
  case isTrue both => exact both.2
  case isFalse => decide

/-- After the gap logic and the full check CHANGE_CNT names the slot to write. -/
theorem fullCheck_gapLogic_changeCnt (s : State) :
    (fullCheck (gapLogic (edgeDuration s) s)).changeCnt = edgeSlot s := by
  obtain data | gap := le_or_gt (edgeDuration s).toNat 4300
  · rw [gapLogic_of_data data, edgeSlot_of_data data]
    split
    case isTrue room => rw [fullCheck_of_room room]
    case isFalse noRoom => rw [fullCheck_of_full (Nat.le_of_not_lt noRoom)]
  · have reset := gapLogic_changeCnt_of_gap (s := s) gap
    rw [edgeSlot_of_gap gap, fullCheck_of_room (by rw [reset]; decide), reset]

section Handled
variable {s : State} (listening : s.inPin ≠ 0xFF)
include listening

/-- A handled edge leaves CHANGE_CNT one above the slot it wrote; the slot is below 67, so nothing wraps. -/
theorem edge_changeCnt_toNat : (edge s).changeCnt.toNat = (edgeSlot s).toNat + 1 := by
  have inBuffer := edgeSlot_lt s
  rw [edge_of_listening listening, recordEdge_changeCnt, fullCheck_gapLogic_changeCnt]
  bv_omega

theorem edge_tb : (edge s).tb = s.tb.write (edgeSlot s).toNat (edgeDuration s) := by
  rw [edge_of_listening listening, recordEdge_tb, fullCheck_gapLogic_changeCnt, fullCheck_tb, gapLogic_tb]

theorem edge_lastTime : (edge s).lastTime = time s := by
  simp only [edge_of_listening listening, recordEdge_lastTime, time, fullCheck_ovf, fullCheck_tcnt, gapLogic_ovf,
    gapLogic_tcnt]

end Handled

/-- Settles O39: the edge writes `edgeSlot`, and CHANGE_CNT ends one above it. -/
theorem edgeWritesOneSlot : Obligations.EdgeWritesOneSlot := by
  intro s listening canonical t d
  have inBuffer := edgeSlot_lt s
  have counted : t.changeCnt.toNat = (edgeSlot s).toNat + 1 := edge_changeCnt_toNat listening
  have written : t.changeCnt.toNat - 1 = (edgeSlot s).toNat := by omega
  have reads (a : Nat) : t.tb.read a = if (edgeSlot s).toNat = a then d else s.tb.read a := by
    rw [edge_tb listening, memory_read_write _ _ _ _ canonical]
    rfl
  obtain ⟨config, sequencer, -⟩ := edge_frame s
  refine ⟨by omega, by omega, ?_, fun a other => ?_, fun gap => ?_, fun data => ?_, edge_lastTime listening, config,
    sequencer, edge_tcnt s, edge_ovf s⟩
  · rw [reads, written, if_pos rfl]
  · rw [reads, if_neg (written ▸ other.symm)]
  · apply BitVec.eq_of_toNat_eq
    rw [counted, edgeSlot_of_gap gap]
    rfl
  · rw [counted, edgeSlot_of_data data]
    split <;> rfl

end Sys2Proof.Machine
end

section
/-! PROOFS. The Protocol Matcher, continued (44_protocol_matcher.md): SETTOL (O18), the length guard (O40), what a
success carries (O41), the code the loop collects (O42), and the slots TRYDECODE reads (O43). -/

namespace Sys2Proof.Machine

/-- Settles O18: SETTOL has one case, and its next state is the stated one. -/
theorem setTolStores : Obligations.SetTolStores :=
  fun _ _ _ => rfl

/-! ### What a success of TRYDECODE says (R202, R208, R209) -/

/-- The guard holds of every success, so a short capture has none (R208). -/
theorem tryDecode_none_of_short {E : Nat} (short : E ≤ 7) (p : Nat) (s : State) : tryDecode p E s = none := by
  cases decoded : tryDecode p E s with
  | none => rfl
  | some r =>
    obtain ⟨guard, -⟩ := tryDecode_some decoded
    omega

/-- Settles O40. -/
theorem shortCapturesAreRejected : Obligations.ShortCapturesAreRejected :=
  fun p _ s short => tryDecode_none_of_short short p s

/-- The unit estimate is at most slot 0, so the 32 bits of the result hold it (R202). -/
theorem unitEstimate_lt (P : Protocol) (tb : Memory 32) : unitEstimate P tb < 2 ^ 32 :=
  (Nat.div_le_self _ _).trans_lt (tb.read 0).isLt

/-- Settles O41: each published field is wide enough for the number it holds. -/
theorem publishedLengthUnitAndIndex : Obligations.PublishedLengthUnitAndIndex := by
  intro p E s r _ atMostSix inBuffer _ decoded
  obtain ⟨guard, len, proto, unit, -⟩ := tryDecode_some decoded
  refine ⟨guard, ?_, ?_, ?_⟩
  · rw [len, BitVec.toNat_ofNat]
    omega
  · rw [proto, BitVec.toNat_ofNat]
    omega
  · rw [unit, BitVec.toNat_ofNat, Nat.mod_eq_of_lt (unitEstimate_lt ..)]
    rfl

/-! ### The code the loop collects (R204, R206, R207) -/

section Loop
variable {P : Protocol} {u t E : Nat} {tb : Memory 32}

/-- Where every whole pair from `start` on is a bit, the loop collects them all; past the last slot there is none. -/
theorem matchLoop_whole_pairs {start : Nat} {bit : Nat → Bool}
    (fits : ∀ k, k < (E - start) / 2 →
      classify P u t (tb.read (start + 2 * k)).toNat (tb.read (start + 2 * k + 1)).toNat = some (bit k)) :
    matchLoop P u t tb E E start 0 = some (shiftAll 0 bit ((E - start) / 2)) := by
  obtain inside | past := Nat.le_total start E
  · exact matchLoop_bits 0 (by omega) (by omega) (by omega) fits
  · rw [matchLoop_end (by omega), show (E - start) / 2 = 0 by omega, shiftAll]

/-- The first of `n` bits taken is bit `n - 1`; of more than 32 the last 32 are kept (R206). -/
theorem shiftAll_getLsbD_rev (bit : Nat → Bool) {n k : Nat} (taken : k < n) (kept : n - 1 - k < 32) :
    (shiftAll 0 bit n).getLsbD (n - 1 - k) = bit k := by
  rw [shiftAll_getLsbD n kept, if_pos (by omega), show n - 1 - (n - 1 - k) = k by omega]

/-- Above the bits taken the accumulator, which begins at 0, stays 0. -/
theorem shiftAll_getLsbD_above (bit : Nat → Bool) {n m : Nat} (above : n ≤ m) :
    (shiftAll 0 bit n).getLsbD m = false := by
  obtain inWord | beyond := Nat.lt_or_ge m 32
  · rw [shiftAll_getLsbD n inWord, if_neg above.not_gt]
    exact BitVec.getLsbD_zero
  · exact BitVec.getLsbD_of_ge _ m beyond

/-- The loop reads slots below the edge count only, whatever fuel it has (R215). -/
theorem matchLoop_congr {tb' : Memory 32} (same : ∀ a, a < E → tb'.read a = tb.read a) (fuel : Nat) :
    ∀ (i : Nat) (code : Word), matchLoop P u t tb' E fuel i code = matchLoop P u t tb E fuel i code := by
  induction fuel with
  | zero => exact fun _ _ => rfl
  | succ fuel ih =>
    intro i code
    obtain inside | outside := Nat.lt_or_ge (i + 1) E
    · have first := same i (by omega)
      have second := same (i + 1) inside
      cases pair : classify P u t (tb.read i).toNat (tb.read (i + 1)).toNat with
      | none => rw [matchLoop_no_bit inside pair, matchLoop_no_bit inside (by rw [first, second, pair])]
      | some bit => rw [matchLoop_bit inside pair, matchLoop_bit inside (by rw [first, second, pair]), ih]
    · rw [matchLoop_end outside, matchLoop_end outside]

end Loop

/-- Settles O42: one misfit fails the loop; otherwise its accumulator takes the bits of all whole pairs. -/
theorem matcherConsumesEveryWholePair : Obligations.MatcherConsumesEveryWholePair := by
  intro P u t tb E start n bit
  have count : n = (E - start) / 2 := rfl
  constructor
  · rintro ⟨k, inRange, misfit⟩
    exact matchLoop_none (k := k) 0 (by omega) (by omega) misfit
  · intro allFit
    obtain ⟨bits, fits⟩ : ∃ bits : Nat → Bool, ∀ k, k < n → bit k = some (bits k) := by
      refine ⟨fun k => (bit k).getD false, fun k inRange => ?_⟩
      obtain ⟨b, isBit⟩ := Option.ne_none_iff_exists'.mp (allFit k inRange)
      simp only [isBit, Option.getD_some]
    refine ⟨_, matchLoop_whole_pairs fits, fun k inRange kept => ?_, fun m above => shiftAll_getLsbD_above bits above⟩
    exact (fits k inRange).trans (congrArg some (shiftAll_getLsbD_rev bits inRange kept).symm)

/-! ### The slots TRYDECODE reads (R215) -/

/-- Slot 0 gives the unit, and with it the tolerance; the loop reads the rest, below the edge count. -/
theorem tryLoop_congr {p E : Nat} {s s' : State} (tol : s'.rxTol = s.rxTol) (table : s'.pt = s.pt)
    (unit : unitEstimate (protocolAt s.pt p) s'.tb = unitEstimate (protocolAt s.pt p) s.tb)
    (same : ∀ a, a < E → s'.tb.read a = s.tb.read a) : tryLoop p E s' = tryLoop p E s := by
  rw [tryLoop, tryLoop, tol, table, unit, matchLoop_congr same]

/-- Settles O43: the guard rejects an edge count of 0, so slot 0 is below it wherever the unit is published. -/
theorem matcherSeesOnlyTheRecordedSlots : Obligations.MatcherSeesOnlyTheRecordedSlots := by
  intro p E s s' tol table same
  obtain short | guard := le_or_gt E 7
  · rw [tryDecode_none_of_short short, tryDecode_none_of_short short]
  · have unit : unitEstimate (protocolAt s.pt p) s'.tb = unitEstimate (protocolAt s.pt p) s.tb := by
      rw [unitEstimate, unitEstimate, same 0 (by omega)]
    have loops : tryLoop p E s' = tryLoop p E s := tryLoop_congr tol table unit same
    cases loop : tryLoop p E s with
    | none => rw [tryDecode_eq_none loop, tryDecode_eq_none (loops.trans loop)]
    | some code => rw [tryDecode_eq_some loop guard, tryDecode_eq_some (loops.trans loop) guard, table, unit]

end Sys2Proof.Machine
end

section
/-! PROOFS. The Decode Coordinator (45_decode_coordinator.md): the lowest index wins (O45). -/

namespace Sys2Proof.Machine

section Tries
variable {E : Nat} {s : State}

/-- An index that succeeds ends the search; one that fails passes it to the next (R220). -/
theorem firstDecode_cons_of_some {p : Nat} {r : Decoded} (success : tryDecode p E s = some r) (rest : List Nat) :
    firstDecode E s (p :: rest) = some r := by
  rw [firstDecode, success]

theorem firstDecode_cons_of_none {p : Nat} (failure : tryDecode p E s = none) (rest : List Nat) :
    firstDecode E s (p :: rest) = firstDecode E s rest := by
  rw [firstDecode, failure]

/-- Failing indices in front do not matter to the search. -/
theorem firstDecode_append_of_none {pre : List Nat} (failures : ∀ q ∈ pre, tryDecode q E s = none) (rest : List Nat) :
    firstDecode E s (pre ++ rest) = firstDecode E s rest := by
  induction pre with
  | nil => rfl
  | cons q pre ih =>
    obtain ⟨failure, later⟩ := List.forall_mem_cons.mp failures
    rw [List.cons_append, firstDecode_cons_of_none failure, ih later]

/-- The indices are tried in ascending order: exactly those from 1 to `p - 1` come before `p` (R220, R222). -/
theorem coordIndices_split {p : Nat} (low : 1 ≤ p) (high : p ≤ 6) :
    coordIndices = List.range' 1 (p - 1) ++ p :: List.range' (p + 1) (6 - p) := by
  interval_cases p <;> rfl

/-- Without a success COORD publishes nothing (R223). -/
theorem coord_of_no_success (failures : ∀ p, 1 ≤ p → p ≤ 6 → tryDecode p E s = none) : coord E s = s := by
  obtain same | ⟨p, r, low, high, success, -⟩ := coord_cases E s
  · exact same
  · rw [failures p low high] at success
    cases success

/-- The success of the lowest index is the one COORD publishes (R220, R221). -/
theorem coord_of_lowest_success {p : Nat} {r : Decoded} (low : 1 ≤ p) (high : p ≤ 6)
    (success : tryDecode p E s = some r) (failures : ∀ q, 1 ≤ q → q < p → tryDecode q E s = none) :
    coord E s = publish r s := by
  have before : ∀ q ∈ List.range' 1 (p - 1), tryDecode q E s = none := by
    intro q member
    obtain ⟨least, below⟩ := List.mem_range'_1.mp member
    exact failures q least (by omega)
  have found : firstDecode E s coordIndices = some r := by
    rw [coordIndices_split low high, firstDecode_append_of_none before, firstDecode_cons_of_some success]
  rw [coord, found]

end Tries

/-- Settles O45: what COORD publishes is the lowest success, and a publish writes the five result registers only. -/
theorem coordinatorTakesTheLowestIndex : Obligations.CoordinatorTakesTheLowestIndex :=
  fun _ _ => ⟨coord_of_no_success, fun _ _ low high success failures => coord_of_lowest_success low high success failures⟩

end Sys2Proof.Machine
end

section
/-! PROOFS. The consumer interface (46_consumer.md): what the five reads answer (O48), and what RSTAVAIL clears (O49). -/

namespace Sys2Proof.Machine

/-! ### The reads that widen a register to the response word (R230, R233, R235) -/

/-- The valid bit widened to a response is the number 1 or 0. -/
theorem zeroExtend_ofBool_eq_ite (b : Bool) : (BitVec.ofBool b).zeroExtend 32 = if b then (1 : Word) else 0 := by
  cases b with
  | false => rfl
  | true => rfl

theorem exec_avail (s : State) : exec .avail s = .next (respond true (if s.resValid then 1 else 0) s) := by
  rw [← zeroExtend_ofBool_eq_ite]
  rfl

theorem exec_rdLen (s : State) : exec .rdLen s = .next (respond true (BitVec.ofNat 32 s.resLen.toNat) s) := by
  rw [BitVec.ofNat_toNat]
  rfl

theorem exec_rdProto (s : State) : exec .rdProto s = .next (respond true (BitVec.ofNat 32 s.resProto.toNat) s) := by
  rw [BitVec.ofNat_toNat]
  rfl

/-! ### The statements -/

/-- Settles O48: a read writes the response alone, and widening a register to it keeps its number; RES_VALUE and
RES_UNIT have the response's width already. -/
theorem readsAnswerTheResult : Obligations.ReadsAnswerTheResult :=
  fun s _ => ⟨exec_avail s, rfl, exec_rdLen s, rfl, exec_rdProto s⟩

/-- Settles O49: RSTAVAIL has one case, and its next state is the stated one. -/
theorem rstAvailClearsTheResult : Obligations.RstAvailClearsTheResult :=
  fun _ _ => rfl

end Sys2Proof.Machine
end

section
/-! PROOFS. The hold of the host (70_reset_and_hazards.md): how long an accepted send keeps TX_BUSY at 1 (O29). With
an output pin a transmit command leaves the sequencer playing its segment list, so the hold is that list's duration. -/

namespace Sys2Proof.Machine

/-- The response port is no part of the sequencer. -/
theorem Plays.accept {out : Bool} {segs : List Segment} {s : State} (h : Plays out segs s) :
    Plays out segs (accept s) :=
  ⟨h.registers, h.busy⟩

/-- With an output pin a transmit command starts its segment list (R132, R154). -/
theorem transmit_plays {s : State} (pin : s.outPin ≠ 0xFF) (segs : List Segment) :
    Plays s.out segs (transmit segs s) := by
  rw [transmit, if_neg pin]
  exact (txStart_plays segs s).accept

/-- With an output pin a send holds the host for the duration of its frames (R137, R168). -/
theorem ticks_sendCode_txBusy {s : State} (pin : s.outPin ≠ 0xFF) (code : Word) (len k : Nat) :
    (ticks k (sendCode code len s)).txBusy =
      decide (k < sendDuration (activeProtocol s) code len s.txRepeat.toNat) := by
  rw [← durationOfASend]
  exact (transmit_plays pin _).ticks_txBusy k

/-- Settles O29: an accepted SENDBITS is a send of its code and length. -/
theorem sendHoldsTheHostExactly : Obligations.SendHoldsTheHostExactly :=
  fun bitLength code s _ fits pin =>
    ⟨sendCode code bitLength.toNat s, exec_sendBits_of_le fits code s, ticks_sendCode_txBusy pin code bitLength.toNat⟩

end Sys2Proof.Machine
end

section
/-! PROOFS. Words of the spec's test vectors (95_test_vectors.md section 2): what each decodes to (O4). -/

namespace Sys2Proof

/-- Settles O4: nine closed words, each run through the decoder. -/
theorem wordsOfTheSpecDecode : Obligations.WordsOfTheSpecDecode := by
  unfold Obligations.WordsOfTheSpecDecode
  decide

end Sys2Proof
end

section
/-! PROOFS. The steps of the block: events, reset and the held host (O7 to O9, O11, O12), and how long a word on the
port is held (O30). -/

namespace Sys2Proof.Machine

/-! ### Every input has its step (R7, R250) -/

theorem hostCmd_next (w : CmdWord) (s : State) : ∃ t, hostCmd w s = .next t := by
  cases decoded : decode w with
  | ok i =>
    rw [hostCmd_of_ok decoded]
    exact exec_next i s
  | error e => exact ⟨_, hostCmd_of_error decoded s⟩

theorem act_next (i : Input) (s : State) : ∃ t, act i s = .next t := by
  cases i with
  | cmd w => exact hostCmd_next w s
  | tick | edge | rst => exact ⟨_, rfl⟩

/-- Settles O9: whichever input moves, its act answers a next state. -/
theorem everyStepAnswersNext : Obligations.EveryStepAnswersNext :=
  fun _ => act_next _ _

/-- Settles O8: the turn of each event, and of the empty list. -/
theorem eventsAreSteps : Obligations.EventsAreSteps :=
  fun _ _ => ⟨fun h => step_of_turn (turn_tick h), fun h => step_of_turn (turn_edge h), fun h => step_of_turn (turn_nil h)⟩

/-- Settles O11: the turn of RST, whose act is the release of the reset. -/
theorem resetEndsEverything : Obligations.ResetEndsEverything := by
  intro s rest h
  rw [step_of_turn (turn_rst h)]
  rfl

/-- Settles O12: both states are what RST leaves behind when the table is legal. -/
theorem resetIsALegalState : Obligations.ResetIsALegalState :=
  ⟨fun pt table => resetAll_legalState (s := { State.reset with pt := pt }) table,
    resetAll_legalState (s := State.reset) (by decide : tableOk ptDefault = true)⟩

/-! ### A held word (R137, log 4) -/

section Held
variable {s : State} {w : CmdWord} {rest : List Input}

/-- While the word is held, the step is a microsecond and the word stays. -/
theorem step_of_held (hinputs : s.inputs = .cmd w :: rest) (busy : s.txBusy = true) :
    step s = .next (noResponse (tick s)) :=
  step_of_turn (turn_held hinputs busy)

/-- The steps of a held word play the segment list: it waits on the port up to the sum of the durations (R138). -/
theorem steps_of_held {out : Bool} {segs : List Segment} {k : Nat} (plays : Plays out segs s)
    (hinputs : s.inputs = .cmd w :: rest) (held : k ≤ totalDur segs) :
    ∃ t, steps k s = some t ∧ t.txBusy = decide (k < totalDur segs) ∧ t.inputs = .cmd w :: rest := by
  induction k generalizing out segs s with
  | zero => exact ⟨s, rfl, plays.busy, hinputs⟩
  | succ k ih =>
    have busy : s.txBusy = true := plays.busy.trans (decide_eq_true (by omega))
    obtain ⟨out', segs', ticked, left, -⟩ := plays.after_tick
    have next : Plays out' segs' (noResponse (tick s)) := ⟨ticked.registers, ticked.busy⟩
    obtain ⟨t, run, busyAtEnd, waiting⟩ := ih next ((tick_inputs s).trans hinputs) (by omega)
    refine ⟨t, ?_, busyAtEnd.trans (decide_eq_decide.2 (by omega)), waiting⟩
    rw [steps, step_of_held hinputs busy]
    exact run

/-- A legal busy sequencer plays what is left of the segment in progress, and then the segments still to come (R29). -/
theorem plays_of_legal_busy (legal : LegalState s) (busy : s.txBusy = true) :
    Plays s.out (⟨s.out, s.txRemain⟩ :: s.txSegs) s :=
  (plays_nonzero_iff (g := ⟨s.out, s.txRemain⟩) (dur_toNat_pos_iff.1 (legal.busy busy))).2 ⟨rfl, rfl, rfl, busy⟩

end Held

/-- Settles O7: the step is a microsecond, whose frame is everything but the sequencer and T. -/
theorem busyHoldsTheHost : Obligations.BusyHoldsTheHost := by
  intro s w rest hinputs busy
  obtain ⟨capture, result, config, table⟩ := tick_frame s
  exact ⟨noResponse (tick s), step_of_held hinputs busy, tick_inputs s, rfl, time_tick s, config, capture, result, table⟩

/-- Settles O30: the hold is the time left of the list being played, and an idle block takes the word. -/
theorem heldCommandIsTakenWhenTheHoldEnds : Obligations.HeldCommandIsTakenWhenTheHoldEnds := by
  intro s w rest legal busy hinputs
  have plays := plays_of_legal_busy legal busy
  constructor
  · intro k before
    obtain ⟨t, run, stillBusy, waiting⟩ := steps_of_held plays hinputs (Nat.le_of_lt before)
    exact ⟨t, run, stillBusy.trans (decide_eq_true before), waiting⟩
  · obtain ⟨t, run, ended, waiting⟩ := steps_of_held plays hinputs (Nat.le_refl _)
    have idle : t.txBusy = false := ended.trans (decide_eq_false (Nat.lt_irrefl _))
    exact ⟨t, run, idle, waiting, step_of_cmd waiting idle⟩

end Sys2Proof.Machine
end

section
/-! PROOFS. Edge Capture, continued (43_edge_capture.md): the edges that change nothing (O33) or append (O34), the gap
that decodes (O38), and that the receive side determines what an edge does to it (O57). -/

namespace Sys2Proof.Machine

/-- Settles O33: EDGE asks for an input line before anything else. -/
theorem edgeWithoutInputLine : Obligations.EdgeWithoutInputLine :=
  fun _ notListening => if_pos notListening

/-- Settles O34: data meets the full check, which does nothing where there is room. -/
theorem edgeAppendsData : Obligations.EdgeAppendsData := by
  intro s listening data room
  rw [edge_of_data listening data, fullCheck_of_room room]
  rfl

/-! ### The second qualifying gap (R185, R188) -/

/-- The second qualifying gap hands CHANGE_CNT to the coordinator (R185). -/
theorem countGap_of_second {s : State} (second : s.repeatCnt = 1) :
    countGap s = { coord s.changeCnt.toNat s with repeatCnt := 0 } :=
  if_pos (by rw [second]; decide)

/-- What is recorded after a second qualifying gap: the gap in slot 0, over what the coordinator leaves. -/
theorem edge_of_second_gap {s : State} (listening : s.inPin ≠ 0xFF) (gap : 4300 < (edgeDuration s).toNat)
    (near : absdiff (edgeDuration s).toNat (s.tb.read 0).toNat ≤ 200) (second : s.repeatCnt = 1) :
    edge s = recordEdge (edgeDuration s) { coord s.changeCnt.toNat s with repeatCnt := 0, changeCnt := 0 } := by
  rw [edge_of_gap listening gap, gapLogic_of_gap gap, if_pos near, countGap_of_second second]

/-- Settles O38: the two outcomes of the coordinator, each recorded. -/
theorem secondQualifyingGapDecodes : Obligations.SecondQualifyingGapDecodes := by
  intro s listening gap near second
  rw [edge_of_second_gap listening gap near second]
  constructor
  · intro failures
    rw [coord_of_no_success failures]
    rfl
  · intro p r low high success failures
    rw [coord_of_lowest_success low high success failures]
    rfl

/-! ### The receive side alone (R288) -/

/-- Two states agree on all that an edge reads and writes. -/
structure SameReceiveSide (s s' : State) : Prop where
  inPin : s'.inPin = s.inPin
  rxTol : s'.rxTol = s.rxTol
  table : s'.pt = s.pt
  time : SameTime s s'
  capture : SameCapture s s'
  result : SameResult s s'

namespace SameReceiveSide
variable {s s' : State}

theorem time_eq (h : SameReceiveSide s s') : Machine.time s' = Machine.time s := by
  obtain ⟨tcnt, ovf⟩ := h.time
  rw [Machine.time, Machine.time, tcnt, ovf]

theorem edgeDuration_eq (h : SameReceiveSide s s') : edgeDuration s' = edgeDuration s := by
  obtain ⟨-, -, -, lastTime⟩ := h.capture
  rw [edgeDuration, edgeDuration, h.time_eq, lastTime]

theorem firstDecode_eq (h : SameReceiveSide s s') (E : Nat) (l : List Nat) :
    firstDecode E s' l = firstDecode E s l := by
  obtain ⟨tb, -⟩ := h.capture
  induction l with
  | nil => rfl
  | cons p rest ih =>
    have sameTry : tryDecode p E s' = tryDecode p E s :=
      matcherSeesOnlyTheRecordedSlots p E s s' h.rxTol h.table fun _ _ => by rw [tb]
    rw [firstDecode, firstDecode, sameTry, ih]

/-- Writing the two frame counters alike keeps the agreement. -/
theorem setCounters {change change' : BitVec 7} {rep rep' : BitVec 2} (h : SameReceiveSide s s')
    (sameChange : change' = change) (sameRep : rep' = rep) :
    SameReceiveSide { s with changeCnt := change, repeatCnt := rep }
      { s' with changeCnt := change', repeatCnt := rep' } := by
  obtain ⟨tb, -, -, lastTime⟩ := h.capture
  exact { h with capture := ⟨tb, sameChange, sameRep, lastTime⟩ }

theorem coord (h : SameReceiveSide s s') (E : Nat) : SameReceiveSide (coord E s) (coord E s') := by
  unfold Machine.coord
  rw [h.firstDecode_eq]
  split
  · exact { h with result := ⟨rfl, rfl, rfl, rfl, rfl⟩ }
  · exact h

theorem countGap (h : SameReceiveSide s s') : SameReceiveSide (countGap s) (countGap s') := by
  obtain ⟨-, change, rep, -⟩ := h.capture
  unfold Machine.countGap
  rw [change, rep]
  split
  · have decoded := h.coord s.changeCnt.toNat
    obtain ⟨-, sameChange, -, -⟩ := decoded.capture
    exact decoded.setCounters sameChange rfl
  · exact h.setCounters rfl rfl

theorem gapLogic (h : SameReceiveSide s s') (d : Word) : SameReceiveSide (gapLogic d s) (gapLogic d s') := by
  obtain ⟨tb, -, -, -⟩ := h.capture
  have slot0 : s'.tb.read 0 = s.tb.read 0 := by rw [tb]
  unfold Machine.gapLogic
  rw [slot0]
  split
  · split
    · obtain ⟨-, -, sameRep, -⟩ := h.countGap.capture
      exact h.countGap.setCounters rfl sameRep
    · exact h.setCounters rfl rfl
  · exact h

theorem fullCheck (h : SameReceiveSide s s') : SameReceiveSide (fullCheck s) (fullCheck s') := by
  obtain ⟨-, change, -, -⟩ := h.capture
  unfold Machine.fullCheck
  rw [change]
  split
  · exact h.setCounters rfl rfl
  · exact h

theorem recordEdge (h : SameReceiveSide s s') (d : Word) : SameReceiveSide (recordEdge d s) (recordEdge d s') := by
  obtain ⟨tb, change, rep, -⟩ := h.capture
  exact { h with capture := ⟨by simp [tb, change], by simp [change], rep, h.time_eq⟩ }

theorem edge (h : SameReceiveSide s s') : SameReceiveSide (edge s) (edge s') := by
  unfold Machine.edge
  rw [h.inPin, h.edgeDuration_eq]
  split
  · exact h
  · exact ((h.gapLogic _).fullCheck).recordEdge _

end SameReceiveSide

/-- Settles O57: every part of EDGE keeps an agreement on the receive side. -/
theorem captureIgnoresTheTransmitSide : Obligations.CaptureIgnoresTheTransmitSide := by
  intro s s' inPin rxTol table time capture result
  have same : SameReceiveSide (edge s) (edge s') := SameReceiveSide.edge ⟨inPin, rxTol, table, time, capture, result⟩
  exact ⟨same.capture, same.result⟩

end Sys2Proof.Machine
end

section
/-! PROOFS. Who owns OUT and the Decoded Result (10_state.md section 8): which steps leave the sequencer (O53) and the
result (O54, O55) alone, and what a response can show (O56). -/

namespace Sys2Proof.Machine

/-! ### Commands that start nothing -/

/-- A command that does not transmit leaves the sequencer alone, and the result too unless it is RSTAVAIL (R49). -/
theorem exec_of_not_transmits {i : Instr} {s t : State} (silent : transmits i = false) (h : exec i s = .next t) :
    SameSequencer s t ∧ (i ≠ .rstAvail → SameResult s t) := by
  cases i
  case emit | sendBits | sendBin | sendTri => cases silent
  case rstAvail =>
    cases h
    exact ⟨⟨rfl, rfl, rfl, rfl⟩, fun other => absurd rfl other⟩
  case putSym =>
    obtain rfl | ⟨-, rfl⟩ := exec_putSym_cases h <;> exact ⟨⟨rfl, rfl, rfl, rfl⟩, fun _ => ⟨rfl, rfl, rfl, rfl, rfl⟩⟩
  case setProto | setRep | cfgOut | cfgIn | setTol | avail | rdValue | rdLen | rdUnit | rdProto =>
    cases h
    exact ⟨⟨rfl, rfl, rfl, rfl⟩, fun _ => ⟨rfl, rfl, rfl, rfl, rfl⟩⟩

/-- Of the commands RSTAVAIL alone changes the result (R36, R231). -/
theorem exec_sameResult {i : Instr} {s t : State} (other : i ≠ .rstAvail) (h : exec i s = .next t) : SameResult s t := by
  cases kind : transmits i with
  | false =>
    obtain ⟨-, result⟩ := exec_of_not_transmits kind h
    exact result other
  | true =>
    obtain ⟨-, result, -⟩ := transmitCommandsKeepConfigAndResult i s t kind h
    exact result

/-- Settles O53, over the kinds of steps: an edge, a command that does not transmit, and an illegal word are left. -/
theorem onlyTheSequencerDrivesTheLine : Obligations.OnlyTheSequencerDrivesTheLine := by
  intro s t h notTick notRst silent
  obtain ⟨tick, -⟩ | ⟨-, rfl⟩ | ⟨rst, -⟩ | ⟨w, i, taken, -, legal, run⟩ | ⟨-, -, -, -, -, rfl⟩ := step_cases h
  case inl => exact absurd tick notTick
  case inr.inl =>
    obtain ⟨-, sequencer, -⟩ := edge_frame { s with inputs := (turn s).2 }
    exact sequencer
  case inr.inr.inl => exact absurd rst notRst
  case inr.inr.inr.inl =>
    obtain ⟨sequencer, -⟩ := exec_of_not_transmits (silent w i taken legal) run
    exact sequencer
  case inr.inr.inr.inr => exact ⟨rfl, rfl, rfl, rfl⟩

/-- Settles O54, over the kinds of steps: the one word of RSTAVAIL is its encoding. -/
theorem onlyEdgeAndRstAvailChangeTheResult : Obligations.OnlyEdgeAndRstAvailChangeTheResult := by
  intro s t h notEdge notRst notRstAvail
  obtain ⟨-, rfl⟩ | ⟨edge, -⟩ | ⟨rst, -⟩ | ⟨w, i, taken, -, legal, run⟩ | ⟨-, -, -, -, -, rfl⟩ := step_cases h
  case inl =>
    obtain ⟨-, result, -⟩ := tick_frame { s with inputs := (turn s).2 }
    exact result
  case inr.inl => exact absurd edge notEdge
  case inr.inr.inl => exact absurd rst notRst
  case inr.inr.inr.inl =>
    have other : i ≠ .rstAvail := by
      rintro rfl
      exact notRstAvail (taken.trans (congrArg Input.cmd (encodeOfDecode w _ legal).symm))
    have result : SameResult { s with inputs := (turn s).2 } t := exec_sameResult other run
    exact result
  case inr.inr.inr.inr => exact ⟨rfl, rfl, rfl, rfl, rfl⟩

/-- Settles O55: without an input line an edge changes nothing either. -/
theorem resultIsStableWithoutInputLine : Obligations.ResultIsStableWithoutInputLine := by
  intro s t notListening h notRst notRstAvail
  by_cases edge : (turn s).1 = .edge
  · have acted : step s = .next (noResponse (Machine.edge { s with inputs := (turn s).2 })) :=
      step_of_turn (Prod.ext edge rfl)
    rw [edgeWithoutInputLine { s with inputs := (turn s).2 } notListening, h] at acted
    cases acted
    exact ⟨rfl, rfl, rfl, rfl, rfl⟩
  · exact onlyEdgeAndRstAvailChangeTheResult s t h edge notRst notRstAvail

/-! ### The response of a command (R91, R238) -/

/-- The OK bit of a command: its range checks and, for SENDTRI, the check of the symbols (R155, R160, R164, R167). -/
def accepts (i : Instr) (sym : Memory 8) : Bool :=
  match i with
  | .sendBits bitLength _ => decide (bitLength.toNat ≤ 32)
  | .putSym index _ => decide (index.toNat ≤ 31)
  | .sendBin n => decide (n.toNat ≤ 32)
  | .sendTri n => decide (n.toNat ≤ 16) && (triCode sym n.toNat).isSome
  | _ => true

/-- The RSP value of a command: the register a read names, and 0 of every other command (R91, R230 to R235). -/
def answerValue (i : Instr) (s : State) : Word :=
  match i with
  | .avail => (BitVec.ofBool s.resValid).zeroExtend 32
  | .rdValue => s.resValue
  | .rdLen => s.resLen.zeroExtend 32
  | .rdUnit => s.resUnit
  | .rdProto => s.resProto.zeroExtend 32
  | _ => 0

/-- A command whose operands are checked answers (0, 0) or (1, 0) by the check. -/
theorem resp_of_check {c ok : Prop} [Decidable c] [Decidable ok] {s t t' : State} (checked : ¬ c ↔ ok)
    (accepted : t'.resp = some ⟨true, 0⟩)
    (h : (if c then .next (refuse s) else .next t' : Host.Outcome State Fault Refusal) = .next t) :
    t.resp = some ⟨decide ok, 0⟩ := by
  by_cases outOfRange : c
  · rw [if_pos outOfRange] at h
    cases h
    rw [decide_eq_false (fun inRange => checked.2 inRange outOfRange)]
    rfl
  · rw [if_neg outOfRange] at h
    cases h
    rw [decide_eq_true (checked.1 outOfRange), accepted]

theorem exec_sendTri_resp {n : Byte} {s t : State} (h : exec (.sendTri n) s = .next t) :
    t.resp = some ⟨decide (n.toNat ≤ 16) && (triCode s.sym n.toNat).isSome, 0⟩ := by
  by_cases fits : n.toNat ≤ 16
  · cases code : triCode s.sym n.toNat with
    | none =>
      rw [exec_sendTri_of_none code] at h
      cases h
      simp
    | some c =>
      rw [exec_sendTri_of_some fits code] at h
      cases h
      simp [sendCode, fits]
  · rw [exec_sendTri_of_gt (Nat.lt_of_not_le fits)] at h
    cases h
    simp [fits]

/-- What every command answers (R91). -/
theorem exec_resp {i : Instr} {s t : State} (h : exec i s = .next t) :
    t.resp = some ⟨accepts i s.sym, answerValue i s⟩ := by
  cases i
  case sendBits => exact resp_of_check Nat.not_lt (transmit_resp _ s) h
  case sendBin => exact resp_of_check Nat.not_lt (transmit_resp _ s) h
  case putSym => exact resp_of_check (Nat.not_le.trans Nat.lt_succ_iff) rfl h
  case sendTri => exact exec_sendTri_resp h
  case emit =>
    cases h
    exact transmit_resp _ s
  case setProto | setRep | cfgOut | cfgIn | setTol | avail | rstAvail | rdValue | rdLen | rdUnit | rdProto =>
    cases h
    rfl

/-- The OK bit of SENDTRI alone depends on the symbols (R167). -/
theorem accepts_congr {i : Instr} {sym sym' : Memory 8} (same : ∀ n, i = .sendTri n → sym' = sym) :
    accepts i sym' = accepts i sym := by
  cases i
  case sendTri n => rw [same n rfl]
  all_goals rfl

theorem answerValue_congr {s s' : State} (same : SameResult s s') (i : Instr) : answerValue i s' = answerValue i s := by
  obtain ⟨valid, value, len, unit, proto⟩ := same
  simp only [answerValue, valid, value, len, unit, proto]

/-- Settles O56: the response is the OK bit of the operands and, for SENDTRI, the symbols, with a value of the result. -/
theorem responsesShowOnlyTheResult : Obligations.ResponsesShowOnlyTheResult := by
  intro i s s' t t' result symbols run run'
  rw [exec_resp run, exec_resp run', accepts_congr symbols, answerValue_congr result]

end Sys2Proof.Machine
end

section
/-! PROOFS. The round trip through the matcher (95_test_vectors.md RT1): a buffer with an exact frame decodes to the
code and the length sent (O46). -/

namespace Sys2Proof.Machine

/-! ### An exact frame (R126, R202) -/

/-- One of the two truncated differences is 0, the other is the distance (R10). -/
theorem absdiff_eq (a b : Nat) : absdiff a b = a - b + (b - a) := by
  unfold absdiff
  split <;> omega

theorem absdiff_eq_zero_iff {a b : Nat} : absdiff a b = 0 ↔ a = b := by
  rw [absdiff_eq]
  omega

/-- Scaling by a unit scales the distance. -/
theorem absdiff_mul (u a b : Nat) : absdiff (u * a) (u * b) = u * absdiff a b := by
  rw [absdiff_eq, absdiff_eq, Nat.mul_add, Nat.mul_sub, Nat.mul_sub]

/-- An exact one-pair does not fit the zero pattern where the two patterns can be told apart (C7). -/
theorem not_fitsPair_zero_of_exact_one {P : Protocol} {u t x y : Nat}
    (told : t < u * absdiff P.one.high.toNat P.zero.high.toNat ∨ t < u * absdiff P.one.low.toNat P.zero.low.toNat)
    (exactHigh : x = u * P.one.high.toNat) (exactLow : y = u * P.one.low.toNat) : ¬ FitsPair u t x y P.zero := by
  rintro ⟨high, low⟩
  rw [exactHigh, absdiff_mul] at high
  rw [exactLow, absdiff_mul] at low
  omega

/-- An exact gap measures the unit of the table, where it carries the larger sync multiplier (R126, R202). -/
theorem unitEstimate_of_gap {P : Protocol} {tb : Memory 32} {gap : Nat} (larger : syncCount P = gap) (nonzero : 1 ≤ gap)
    (exact : (tb.read 0).toNat = P.unit.toNat * gap) : unitEstimate P tb = P.unit.toNat := by
  rw [unitEstimate, exact, larger, Nat.mul_div_cancel _ nonzero]

/-- The sync multiplier that the gap carries, as the larger one (R126). -/
theorem syncCount_of_larger {P : Protocol}
    (larger : if P.inv then P.sync.low.toNat ≤ P.sync.high.toNat else P.sync.high.toNat ≤ P.sync.low.toNat) :
    syncCount P = if P.inv then P.sync.high.toNat else P.sync.low.toNat := by
  unfold syncCount
  split
  case isTrue inv =>
    rw [if_pos inv] at larger
    exact Nat.max_eq_left larger
  case isFalse notInv =>
    rw [if_neg notInv] at larger
    exact Nat.max_eq_right larger

theorem HoldsFrame.mono {P : Protocol} {u dev dev' : Nat} {c : Word} {len first : Nat} {tb : Memory 32}
    (h : HoldsFrame P u dev c len first tb) (le : dev ≤ dev') : HoldsFrame P u dev' c len first tb := fun k hk => by
  obtain ⟨high, low⟩ := h k hk
  exact ⟨high.trans le, low.trans le⟩

/-- The loop reads an exact frame as its code, where the two patterns can be told apart. -/
theorem matchLoop_exact_frame {P : Protocol} {u t len start : Nat} {c : Word} {tb : Memory 32}
    (frame : HoldsFrame P u 0 c len start tb)
    (told : t < u * absdiff P.one.high.toNat P.zero.high.toNat ∨ t < u * absdiff P.one.low.toNat P.zero.low.toNat)
    {E : Nat} (inside : start + 2 * len ≤ E) (atEnd : E ≤ start + 2 * len + 1) :
    matchLoop P u t tb E E start 0 = some (shiftAll 0 (fun k => c.getLsbD (len - 1 - k)) len) := by
  refine matchLoop_frame (frame.mono (Nat.zero_le t)) (fun k hk isOne => ?_) inside atEnd
  obtain ⟨high, low⟩ := frame k hk
  simp only [isOne, bitPair, if_true, Nat.le_zero, absdiff_eq_zero_iff] at high low
  exact not_fitsPair_zero_of_exact_one told high low

/-- Settles O46: the gap measures the table's unit, and under it the loop reads the frame. -/
theorem roundTripThroughTheMatcher : Obligations.RoundTripThroughTheMatcher := by
  intro s p L c _ _ atLeast atMost P gap tol larger nonzero told slot0 frame
  have unit : unitEstimate P s.tb = P.unit.toNat := unitEstimate_of_gap (syncCount_of_larger larger) nonzero slot0
  obtain ⟨atLeastOne, atMostTwo⟩ := startSlot_range P
  have loop : tryLoop p (2 * L + 2) s = some (shiftAll 0 (fun k => c.getLsbD (L - 1 - k)) L) := by
    rw [tryLoop, unit]
    exact matchLoop_exact_frame (start := startSlot P) frame told (by omega) (by omega)
  have code : shiftAll 0 (fun k => c.getLsbD (L - 1 - k)) L = BitVec.ofNat 32 (c.toNat % 2 ^ L) := by
    rw [← shiftAll_code, BitVec.ofNat_toNat, BitVec.setWidth_eq]
  rw [tryDecode_eq_some loop (by omega), code, unit, show (2 * L + 2 - 1) / 2 = L by omega, BitVec.ofNat_toNat]

end Sys2Proof.Machine
end

section
/-! PROOFS. The canonical form of the arrays (20_memory.md section 1, log 10): a listing is determined by what it reads
as (O58). -/

namespace Sys2Proof.Machine

section Canonical
variable {w size lo : Nat}

theorem memory_wfFrom_cons_iff {a : Nat} {v : BitVec w} {m : Memory w} :
    Memory.wfFrom size lo ((a, v) :: m) = true ↔
      lo ≤ a ∧ a < size ∧ v ≠ Memory.unlisted w ∧ Memory.wfFrom size (a + 1) m = true := by
  simp only [Memory.wfFrom, Bool.and_eq_true, decide_eq_true_eq, and_assoc]

theorem memory_read_head (a : Nat) (v : BitVec w) (m : Memory w) : Memory.read ((a, v) :: m) a = v := if_pos rfl

theorem memory_read_of_below {m : Memory w} (h : Memory.wfFrom size lo m = true) {i : Nat} (below : i < lo) :
    Memory.read m i = Memory.unlisted w := by
  induction m generalizing lo with
  | nil => rfl
  | cons x m ih =>
    obtain ⟨above, -, -, rest⟩ := memory_wfFrom_cons_iff.1 h
    rw [Memory.read, if_neg (by omega)]
    exact ih rest (by omega)

/-- A listed cell does not read as an unlisted one, so no canonical listing that begins later reads alike. -/
theorem memory_read_ne_of_head {a : Nat} {v : BitVec w} {m m' : Memory w}
    (h : Memory.wfFrom size lo ((a, v) :: m) = true) (later : Memory.wfFrom size (a + 1) m' = true) :
    Memory.read ((a, v) :: m) a ≠ Memory.read m' a := by
  obtain ⟨-, -, listed, -⟩ := memory_wfFrom_cons_iff.1 h
  rwa [memory_read_head, memory_read_of_below later (Nat.lt_succ_self a)]

/-- A canonical listing is canonical from its first cell on. -/
theorem memory_wfFrom_of_head {lo' a : Nat} {v : BitVec w} {m : Memory w}
    (h : Memory.wfFrom size lo ((a, v) :: m) = true) (above : lo' ≤ a) :
    Memory.wfFrom size lo' ((a, v) :: m) = true := by
  obtain ⟨-, cells⟩ := memory_wfFrom_cons_iff.1 h
  exact memory_wfFrom_cons_iff.2 ⟨above, cells⟩

/-- Cell by cell: the first cells of two listings that read alike are the same, and then so are the rests. -/
theorem memory_ext {m m' : Memory w} (h : Memory.wfFrom size lo m = true) (h' : Memory.wfFrom size lo m' = true)
    (same : ∀ i, Memory.read m i = Memory.read m' i) : m = m' := by
  induction m generalizing lo m' with
  | nil =>
    cases m' with
    | nil => rfl
    | cons x m' => exact absurd (same x.1).symm (memory_read_ne_of_head h' rfl)
  | cons x m ih =>
    obtain ⟨a, v⟩ := x
    cases m' with
    | nil => exact absurd (same a) (memory_read_ne_of_head h rfl)
    | cons y m' =>
      obtain ⟨b, u⟩ := y
      obtain before | rfl | after := Nat.lt_trichotomy a b
      · exact absurd (same a) (memory_read_ne_of_head h (memory_wfFrom_of_head h' before))
      · have sameHead : v = u := by simpa only [memory_read_head] using same a
        obtain ⟨-, -, -, tail⟩ := memory_wfFrom_cons_iff.1 h
        obtain ⟨-, -, -, tail'⟩ := memory_wfFrom_cons_iff.1 h'
        have sameRest (i : Nat) : Memory.read m i = Memory.read m' i := by
          by_cases head : a = i
          · rw [memory_read_of_below tail (by omega), memory_read_of_below tail' (by omega)]
          · simpa only [Memory.read, if_neg head] using same i
        rw [sameHead, ih tail tail' sameRest]
      · exact absurd (same b).symm (memory_read_ne_of_head h' (memory_wfFrom_of_head h after))

end Canonical

/-- Settles O58: the canonical form of a space is the one from index 0 on. -/
theorem equalContentsAreEqualData : Obligations.EqualContentsAreEqualData :=
  fun _ _ _ _ => memory_ext

end Sys2Proof.Machine
end
